-- ==== Sys2Proof/Word.lean ====
section
/-! DEFINITION. The bit-vector widths of the lib_sw_pll control block (00_scope.md R6): a register, a LUT word or
fractional pair, a 64-bit quantity, a byte and an offset in the 256-byte window. -/

namespace Sys2Proof

/-- A 32-bit register or bus data word (00_scope.md R6, 20_memory.md R75). -/
abbrev Word := BitVec 32

/-- A 16-bit LUT word, also the layout of `FRAC_INIT` and of the active pair (30_encoding.md R105). -/
abbrev Half := BitVec 16

/-- A 64-bit quantity: an accumulator or a windup limit (10_state.md R53 to R56). -/
abbrev Wide := BitVec 64

/-- A byte offset in the 256-byte window: exactly 0 to 0xFF (20_memory.md R71). -/
abbrev Offset := BitVec 8

end Sys2Proof
end

