-- ==== Sys2Proof/Config.lean ====
section
/-! DEFINITION. What an implementation fixes (the three parameters of 00_scope.md R5) and the one free value of the
model (the contents of LUT words that were never written). -/

namespace Sys2Proof

/-- The three implementation parameters (00_scope.md R5). "A model takes each as an argument": the machine carries
them in its state, no step changes them, and `PARAMS` reads them (10_state.md R62). DESIGN CHOICE, log 1. -/
structure Params where
  /-- `CNT_W`: width of the measured count, legal from 1 to 32. -/
  cntW : Nat
  /-- `LUT_AW`: the LUT address width, legal from 1 to 15. -/
  lutAW : Nat
  /-- `ACD_W`: width of the application-clock divider field, legal from 1 to 12. -/
  acdW : Nat
deriving DecidableEq, Repr

/-- The bracketed values of 00_scope.md R5, which every vector of 95_test_vectors.md uses. -/
def Params.bracketed : Params := { cntW := 16, lutAW := 12, acdW := 8 }

/-- FREE VALUE, log 5: what a LUT word holds that was never written since reset ("unspecified", 10_state.md R63,
R66; 93 I15). Nothing constrains it, and no state that a run reaches lets any rule read it. -/
opaque Config.unwrittenLutWord : Nat → Half

end Sys2Proof
end

