-- ==== Sys2Proof/Syntax.lean ====
section
/-! DEFINITION. The syntax: the seven commands (30_encoding.md R102), the register names (10_state.md, register map),
the host's events (20_memory.md R70, R86, R87; 70_reset_and_hazards.md R341) and the assembler lines
(30_encoding.md R115, R116). -/

namespace Sys2Proof

/-- The seven commands, one per row of spec/opcode_table.json. A command word has no operand field: operands come
from registers (30_encoding.md R100). -/
inductive Instr where
  /-- `NOP`, word 0 (44_command_control.md R260). -/
  | nop
  /-- `VALIDATE`, word 1 (40_frequency_validator.md R146). -/
  | validate
  /-- `BUILD`, word 2 (41_lut.md R174). -/
  | build
  /-- `INIT`, word 3 (43_controller.md R220). -/
  | init
  /-- `TICK`, word 4 (43_controller.md R221). -/
  | tick
  /-- `RESOLVE`, word 5 (42_mapper.md R201). -/
  | resolve
  /-- `CLEAR`, word 6 (44_command_control.md R262). -/
  | clear
deriving DecidableEq, Repr

/-- The 39 registers of the map (10_state.md section 2), in the order of their offsets 0x00, 0x04, ..., 0x98. -/
inductive Reg where
  | id | cmd | status | faultInfo
  | inFreq | pllCtl | pllAcd | fracInit
  | expInc | initCount | kp | ki | kii
  | lutSize | lutAddr | lutData
  | measCount | periodFrac | resError
  | fracOut | index | setpoint | totalErr | prevCount
  | accLo | accHi | acc2Lo | acc2Hi
  | limitILo | limitIHi | limitIILo | limitIIHi
  | vcheck | freqNumLo | freqNumHi | freqDen | freqHz | vcoHz | params
deriving DecidableEq, Repr

/-- The 64-bit quantities that are read as two registers (20_memory.md R75, 30_encoding.md R116). -/
inductive WideName where
  | acc | acc2 | limitI | limitII | freqNum
deriving DecidableEq, Repr

/-- What can reach the block from outside: one host read or write of `n` bytes at an offset of the window
(20_memory.md R71, R86, R87), or reset between two accesses (70_reset_and_hazards.md R341). -/
inductive HostEvent where
  | read (addr : Offset) (n : Nat)
  | write (addr : Offset) (n : Nat) (data : Word)
  | reset
deriving DecidableEq, Repr

/-- A register as an assembler line names it: by its name or by a hexadecimal offset (30_encoding.md R115). -/
inductive RegRef where
  | named (r : Reg)
  | at (offset : Offset)
deriving DecidableEq, Repr

/-- One line of a program for the block (30_encoding.md R115) or one pseudo-instruction (R116). A value is a number
or a negative decimal, so an integer. -/
inductive Line where
  | wr (target : RegRef) (value : Int)
  /-- `RD <REG>`, or `RD <REG> = <value>`, which also states the value the rules give. -/
  | rd (target : RegRef) (stated : Option Int)
  | nop
  | validate
  | build
  | init
  | clear
  /-- `TICK c`. -/
  | tick (count : Int)
  /-- `TICK c, pf`. -/
  | tickWith (count : Int) (periodFrac : Int)
  /-- `RESOLVE e`. -/
  | resolve (error : Int)
  /-- `LOADLUT a, w0, w1, ..., wk`. -/
  | loadLut (first : Int) (words : List Int)
  /-- `RD64 Q`. -/
  | rd64 (q : WideName)
deriving DecidableEq, Repr

/-- The encoding triple of a line: direction, offset, 32-bit data (30_encoding.md R115). A read carries the value the
line states, if it states one. -/
inductive Triple where
  | w (offset : Offset) (data : Word)
  | r (offset : Offset) (data : Option Word)
deriving DecidableEq, Repr

end Sys2Proof
end

