-- ==== Sys2Proof/WellFormed.lean ====
section
/-! DEFINITION. Well-formedness, each check a Bool: the implementation parameters (00_scope.md R5), a command word
(30_encoding.md R100 to R103) and a host access (20_memory.md R72, R74). A command has no operand, so every term of
`Instr` is well formed and the checks stand on what does have fields. -/

namespace Sys2Proof

/-- The legal parameter values (00_scope.md R5): 1 to 32, 1 to 15 and 1 to 12. -/
def Params.wf (p : Params) : Bool :=
  decide (1 ≤ p.cntW) && decide (p.cntW ≤ 32) &&
  decide (1 ≤ p.lutAW) && decide (p.lutAW ≤ 15) &&
  decide (1 ≤ p.acdW) && decide (p.acdW ≤ 12)

/-- The reserved bits [31:4] of a command word are zero (30_encoding.md R101). -/
def reservedBitsZero (w : Word) : Bool := w.extractLsb' 4 28 == 0#28

/-- The OP field is one of the seven codes of 30_encoding.md R102. -/
def opAssigned (w : Word) : Bool := decide ((w.extractLsb' 0 4).toNat ≤ 6)

/-- A command word the block accepts as a command (30_encoding.md R101 to R103). -/
def commandWordWf (w : Word) : Bool := reservedBitsZero w && opAssigned w

/-- Every command is well formed: the word has no operand field to be out of range (30_encoding.md R100). -/
def Instr.wf : Instr → Bool
  | .nop | .validate | .build | .init | .tick | .resolve | .clear => true

/-- An access the window serves: 32 bits, aligned, at an offset of the register map (20_memory.md R72, R74). -/
def accessWf (addr : Offset) (n : Nat) : Bool :=
  n == 4 && addr.toNat % 4 == 0 && decide (addr.toNat ≤ 0x98)

/-- A host event that raises no bus error; reset is always one. -/
def HostEvent.wf : HostEvent → Bool
  | .read addr n => accessWf addr n
  | .write addr n _ => accessWf addr n
  | .reset => true

end Sys2Proof
end

