-- ==== Sys2Proof/Decode.lean ====
section
/-! DEFINITION. The command decoder, total on every 32-bit word and rejecting by name (30_encoding.md R100 to R104);
after it the encoder of commands, of register offsets, and of assembler lines (R115, R116). -/

namespace Sys2Proof

/-- Why a word written to `CMD` is no command; both raise `CmdErr` (30_encoding.md R101, R103). -/
inductive DecodeError where
  /-- Some of bits [31:4] is set (R101). -/
  | reservedBits
  /-- The reserved bits are zero and OP is one of 0x7 to 0xF (R103). -/
  | reservedOp (op : BitVec 4)
deriving DecidableEq, Repr

/-- The OP field of a command word, bits [3:0] (30_encoding.md R100). -/
def opField (w : Word) : BitVec 4 := w.extractLsb' 0 4

/-- The reserved field of a command word, bits [31:4] (30_encoding.md R100). -/
def rsvdField (w : Word) : BitVec 28 := w.extractLsb' 4 28

/-- The opcode map (30_encoding.md R102, R103). -/
def decodeOp (op : BitVec 4) : Except DecodeError Instr :=
  match op.toNat with
  | 0 => .ok .nop
  | 1 => .ok .validate
  | 2 => .ok .build
  | 3 => .ok .init
  | 4 => .ok .tick
  | 5 => .ok .resolve
  | 6 => .ok .clear
  | _ => .error (.reservedOp op)

/-- Decoding is total and reads the word alone: first `v[31:4]`, then `v[3:0]` (30_encoding.md R100, R104). -/
def decode (w : Word) : Except DecodeError Instr :=
  if rsvdField w ≠ 0#28 then .error .reservedBits else decodeOp (opField w)

/-- The host's question about a row of the opcode table: what the decoder reads from the word's `nbits` bits. A
command is one bus word and has no byte order (20_memory.md R75). -/
def decodeTableWord (nbits w : Nat) : Option Instr := (decode (BitVec.ofNat 32 (w % 2 ^ nbits))).toOption

/-- The command word of a command (30_encoding.md R102). -/
def encode : Instr → Word
  | .nop => 0x00000000#32
  | .validate => 0x00000001#32
  | .build => 0x00000002#32
  | .init => 0x00000003#32
  | .tick => 0x00000004#32
  | .resolve => 0x00000005#32
  | .clear => 0x00000006#32

/-- The byte offset of a register in the window (10_state.md, register map). -/
def Reg.offset : Reg → Offset
  | .id => 0x00#8 | .cmd => 0x04#8 | .status => 0x08#8 | .faultInfo => 0x0C#8
  | .inFreq => 0x10#8 | .pllCtl => 0x14#8 | .pllAcd => 0x18#8 | .fracInit => 0x1C#8
  | .expInc => 0x20#8 | .initCount => 0x24#8
  | .kp => 0x28#8 | .ki => 0x2C#8 | .kii => 0x30#8
  | .lutSize => 0x34#8 | .lutAddr => 0x38#8 | .lutData => 0x3C#8
  | .measCount => 0x40#8 | .periodFrac => 0x44#8 | .resError => 0x48#8
  | .fracOut => 0x4C#8 | .index => 0x50#8 | .setpoint => 0x54#8 | .totalErr => 0x58#8 | .prevCount => 0x5C#8
  | .accLo => 0x60#8 | .accHi => 0x64#8 | .acc2Lo => 0x68#8 | .acc2Hi => 0x6C#8
  | .limitILo => 0x70#8 | .limitIHi => 0x74#8 | .limitIILo => 0x78#8 | .limitIIHi => 0x7C#8
  | .vcheck => 0x80#8 | .freqNumLo => 0x84#8 | .freqNumHi => 0x88#8 | .freqDen => 0x8C#8
  | .freqHz => 0x90#8 | .vcoHz => 0x94#8 | .params => 0x98#8

/-- Every register, in the order of the map. -/
def Reg.all : List Reg :=
  [.id, .cmd, .status, .faultInfo, .inFreq, .pllCtl, .pllAcd, .fracInit, .expInc, .initCount, .kp, .ki, .kii,
   .lutSize, .lutAddr, .lutData, .measCount, .periodFrac, .resError, .fracOut, .index, .setpoint, .totalErr,
   .prevCount, .accLo, .accHi, .acc2Lo, .acc2Hi, .limitILo, .limitIHi, .limitIILo, .limitIIHi, .vcheck,
   .freqNumLo, .freqNumHi, .freqDen, .freqHz, .vcoHz, .params]

/-- The register at an offset; `none` where the window holds no register (20_memory.md R72, R74). -/
def regAt? (addr : Offset) : Option Reg := Reg.all.find? (fun r => r.offset == addr)

/-- The two registers of a 64-bit quantity, low half first (20_memory.md R75). -/
def WideName.halves : WideName → Reg × Reg
  | .acc => (.accLo, .accHi)
  | .acc2 => (.acc2Lo, .acc2Hi)
  | .limitI => (.limitILo, .limitIHi)
  | .limitII => (.limitIILo, .limitIIHi)
  | .freqNum => (.freqNumLo, .freqNumHi)

/-- The offset an assembler line names (30_encoding.md R115). -/
def RegRef.offset : RegRef → Offset
  | .named r => r.offset
  | .at a => a

/-- A value of an assembler line as bus data: a negative decimal is stored as 32-bit two's complement
(30_encoding.md R115). -/
def lineValue (v : Int) : Word := BitVec.ofInt 32 v

/-- The triple of `WR <REG>, v` for a named register. -/
def wrTriple (r : Reg) (v : Int) : Triple := .w r.offset (lineValue v)

/-- The triple of `WR CMD, <OP>` (30_encoding.md R116). -/
def cmdTriple (i : Instr) : Triple := .w Reg.cmd.offset (encode i)

/-- The encoding of a line: its triples, in order, after the exact expansions of the pseudo-instructions
(30_encoding.md R115, R116). -/
def Line.triples : Line → List Triple
  | .wr t v => [.w t.offset (lineValue v)]
  | .rd t stated => [.r t.offset (stated.map lineValue)]
  | .nop => [cmdTriple .nop]
  | .validate => [cmdTriple .validate]
  | .build => [cmdTriple .build]
  | .init => [cmdTriple .init]
  | .clear => [cmdTriple .clear]
  | .tick c => [wrTriple .measCount c, cmdTriple .tick]
  | .tickWith c pf => [wrTriple .measCount c, wrTriple .periodFrac pf, cmdTriple .tick]
  | .resolve e => [wrTriple .resError e, cmdTriple .resolve]
  | .loadLut a ws => wrTriple .lutAddr a :: ws.map (wrTriple .lutData)
  | .rd64 q => [.r q.halves.1.offset none, .r q.halves.2.offset none]

/-- The access a triple stands for: `MemWrite(offset, 4, data)` or `MemRead(offset, 4)` (30_encoding.md R115). -/
def Triple.event : Triple → HostEvent
  | .w a v => .write a 4 v
  | .r a _ => .read a 4

/-- The host accesses of a line. -/
def Line.events (l : Line) : List HostEvent := l.triples.map Triple.event

/-- The host accesses of a program, a list of lines (30_encoding.md R115). -/
def programEvents (p : List Line) : List HostEvent := p.flatMap Line.events

end Sys2Proof
end

