-- ==== Sys2Proof/Machine/State.lean ====
section
/-! DEFINITION. The machine's state as plain data: every piece of state of 10_state.md, the LUT RAM, and the model's
own two fields; the state after reset; why a step can stop (it cannot). -/

namespace Sys2Proof.Machine

/-- The lock status (30_encoding.md R108). `none` is "no resolution since the last reset, INIT or CLEAR". -/
inductive LockStatus where
  | locked | unlockedHigh | unlockedLow | none
deriving DecidableEq, Repr

/-- The fault causes (30_encoding.md R109, 60_exceptions.md R301). -/
inductive FaultCause where
  | none
  | cfgFRange | cfgFrac | cfgVcoLow | cfgVcoHigh
  | lutSize | lutHole | lutFrac | lutNonmono
  | tickPfZero
deriving DecidableEq, Repr

/-- What the block answered to the last host access (00_scope.md R14; 60_exceptions.md R308). The model's own
(log 3): `idle` stands before the first access and after reset. -/
inductive Response where
  | idle
  /-- The write completed without error (also when it had no effect). -/
  | writeOk
  /-- The read completed with this data. -/
  | readOk (data : Word)
  /-- A write that raised `BusError`. -/
  | writeError
  /-- A read that raised `BusError`, and its data. -/
  | readError (data : Word)
deriving DecidableEq, Repr

/-- The bytes of the LUT RAM, by rising address. Word `LUT[i]` is the pair of bytes 2i (bits [7:0], p) and 2i+1
(bits [15:8], f); a byte that is not listed was never written and reads as no value, so `LUTV[i]` is "both bytes
are listed" (10_state.md R63). DESIGN CHOICE, log 4. -/
abbrev Memory := List Host.Cell

/-- The canonical form: strictly rising addresses. An unlisted address reads as no value, so no entry can equal
what an unlisted address reads as. -/
abbrev Memory.wf (m : Memory) : Prop := m.Pairwise (fun c d => c.1 < d.1)

/-- The machine. Registers with a parameter as their width are held as words whose reserved bits are zero
(10_state.md R65). -/
structure State where
  /-- The implementation parameters (00_scope.md R5), constant. -/
  params : Params
  /-- `STATUS.CFG_OK` (R24). -/
  cfgOk : Bool
  /-- `STATUS.READY` (R25). -/
  ready : Bool
  /-- `STATUS.RUN` (R26). -/
  run : Bool
  /-- `STATUS.FAULT` (R27). -/
  fault : Bool
  /-- `STATUS.LOCK` (R28). -/
  lock : LockStatus
  /-- `STATUS.ACC_SAT` (R29). -/
  accSat : Bool
  /-- `STATUS.ACC2_SAT` (R29). -/
  acc2Sat : Bool
  /-- `STATUS.CMD_ERR` (R30). -/
  cmdErr : Bool
  /-- `STATUS.WR_IGN` (R31). -/
  wrIgn : Bool
  /-- `FAULT_INFO.CAUSE` (R32). -/
  faultCause : FaultCause
  /-- `FAULT_INFO.INDEX` (R32). -/
  faultIndex : Half
  /-- `IN_FREQ` (R33). -/
  inFreq : Word
  /-- `PLL_CTL` (R34). -/
  pllCtl : Word
  /-- `PLL_ACD` (R35). -/
  pllAcd : Word
  /-- `FRAC_INIT` (R36). -/
  fracInit : Word
  /-- `EXP_INC` (R37). -/
  expInc : Word
  /-- `INIT_COUNT` (R38). -/
  initCount : Word
  /-- `KP` (R39). -/
  kp : Word
  /-- `KI` (R40). -/
  ki : Word
  /-- `KII` (R41). -/
  kii : Word
  /-- `LUT_SIZE` (R42). -/
  lutSize : Word
  /-- `LUT_ADDR` (R43). -/
  lutAddr : Word
  /-- `MEAS_COUNT` (R45). -/
  measCount : Word
  /-- `PERIOD_FRAC` (R46). -/
  periodFrac : Word
  /-- `RES_ERROR` (R47). -/
  resError : Word
  /-- `FRAC_OUT`, the active pair (R48). -/
  fracOut : Half
  /-- `INDEX` (R49). -/
  index : Word
  /-- `SETPOINT` (R50). -/
  setpoint : Word
  /-- `TOTAL_ERR` (R51). -/
  totalErr : Word
  /-- `PREV_COUNT` (R52). -/
  prevCount : Word
  /-- `ACC` (R53). -/
  acc : Wide
  /-- `ACC2` (R54). -/
  acc2 : Wide
  /-- `LIMIT_I` (R55). -/
  limitI : Wide
  /-- `LIMIT_II` (R56). -/
  limitII : Wide
  /-- The LUT RAM and its written bits (R63). -/
  lut : Memory
  /-- The model's own: the host events still to come, first one first (log 2). -/
  pending : List HostEvent
  /-- The model's own: the answer to the last host access (log 3). -/
  response : Response
deriving DecidableEq, Repr

/-- Why a step can stop with a fault: never, so the type has no constructor. The block's own faults
(60_exceptions.md R300) are states it goes on from, and a bus error is an answer (R308). Safe, log 8. -/
inductive Fault where
deriving DecidableEq, Repr

/-- Why a step can be refused. -/
inductive Refusal where
  /-- Raised by an arm of `exec` for an instruction without a meaning; no arm does. Safe. -/
  | notModelled (mnemonic : String)
deriving DecidableEq, Repr

/-- The state after reset for given parameters (10_state.md R66, 70_reset_and_hazards.md R340): all zero but
`STATUS.LOCK` = NONE and `PERIOD_FRAC` = 1.0, with no LUT word written. -/
def State.resetWith (p : Params) : State where
  params := p
  cfgOk := false
  ready := false
  run := false
  fault := false
  lock := .none
  accSat := false
  acc2Sat := false
  cmdErr := false
  wrIgn := false
  faultCause := .none
  faultIndex := 0#16
  inFreq := 0#32
  pllCtl := 0#32
  pllAcd := 0#32
  fracInit := 0#32
  expInc := 0#32
  initCount := 0#32
  kp := 0#32
  ki := 0#32
  kii := 0#32
  lutSize := 0#32
  lutAddr := 0#32
  measCount := 0#32
  periodFrac := 0x00010000#32
  resError := 0#32
  fracOut := 0#16
  index := 0#32
  setpoint := 0#32
  totalErr := 0#32
  prevCount := 0#32
  acc := 0#64
  acc2 := 0#64
  limitI := 0#64
  limitII := 0#64
  lut := []
  pending := []
  response := .idle

/-- The machine right after reset (10_state.md R66), with the bracketed parameter values of 00_scope.md R5
(DESIGN CHOICE, log 1) and no host event waiting (log 2). -/
def State.reset : State := State.resetWith Params.bracketed

end Sys2Proof.Machine
end

