-- ==== Sys2Proof/Machine/Operands.lean ====
section
/-! DEFINITION. The pseudocode primitives of 00_scope.md R9 and every operand format: bit fields, the LUT word
(30_encoding.md R105), the PLL fields (R107), the fixed-point and integer operands (R110 to R114). -/

namespace Sys2Proof

/-- The number of words of the LUT RAM, `LUT_MAX = 2^LUT_AW` (00_scope.md R5). -/
def Params.lutMax (p : Params) : Nat := 2 ^ p.lutAW

end Sys2Proof

namespace Sys2Proof.Machine

/-- `floor_div(a, b)` for b > 0: the greatest q with q·b ≤ a (00_scope.md R9). -/
def floorDiv (a b : Int) : Int := a / b

/-- `trunc_div(a, b)` for b > 0: rounds toward zero (00_scope.md R9). -/
def truncDiv (a b : Int) : Int := if 0 ≤ a then floorDiv a b else -floorDiv (-a) b

/-- `mod(a, m)` for m > 0: the r with 0 ≤ r < m and a − r divisible by m (00_scope.md R9). -/
def modulo (a m : Int) : Int := a % m

/-- `clamp(v, lo, hi)` for lo ≤ hi (00_scope.md R9). -/
def clamp (v lo hi : Int) : Int := min (max v lo) hi

/-- `sat_s(N, v)`, stored as N-bit two's complement (00_scope.md R9). -/
def satS (n : Nat) (v : Int) : BitVec n := BitVec.ofInt n (clamp v (-(2 ^ (n - 1))) (2 ^ (n - 1) - 1))

/-- `sat_u(N, v)` (00_scope.md R9). -/
def satU (n : Nat) (v : Int) : BitVec n := BitVec.ofInt n (clamp v 0 (2 ^ n - 1))

/-- The field of `len` bits from bit `lo` up, as an unsigned number (00_scope.md R7). -/
def field (w : Word) (lo len : Nat) : Nat := (w.extractLsb' lo len).toNat

/-- The mask of a field of `len` bits from bit `lo` up. -/
def fieldMask (lo len : Nat) : Word := BitVec.ofNat 32 ((2 ^ len - 1) * 2 ^ lo)

/-- The low `k` bits of a word, the others read as zero. -/
def keepLow (k : Nat) (w : Word) : Word := w &&& fieldMask 0 k

/-- f, the fractional multiplier: bits [15:8] of a LUT word or pair (30_encoding.md R105). -/
def pairF (w : Half) : Nat := (w.extractLsb' 8 8).toNat

/-- p, the fractional divider: bits [7:0] of a LUT word or pair (30_encoding.md R105). -/
def pairP (w : Half) : Nat := (w.extractLsb' 0 8).toNat

/-- The word f·256 + p (30_encoding.md R105). -/
def pairWord (f p : Nat) : Half := BitVec.ofNat 16 (f * 256 + p)

/-- The fractional terms of two pairs compared exactly: (f₁+1)/(p₁+1) ≤ (f₂+1)/(p₂+1)
(40_frequency_validator.md R147). -/
def termLe (w₁ w₂ : Half) : Bool := decide ((pairF w₁ + 1) * (pairP w₂ + 1) ≤ (pairF w₂ + 1) * (pairP w₁ + 1))

/-- `IN_FREQ`, whole hertz (10_state.md R33). -/
def State.inHz (s : State) : Nat := s.inFreq.toNat

/-- F = `PLL_CTL[12:0]` (30_encoding.md R107). -/
def State.fieldF (s : State) : Nat := field s.pllCtl 0 13

/-- R = `PLL_CTL[21:16]` (30_encoding.md R107). -/
def State.fieldR (s : State) : Nat := field s.pllCtl 16 6

/-- OD = `PLL_CTL[26:24]` (30_encoding.md R107). -/
def State.fieldOD (s : State) : Nat := field s.pllCtl 24 3

/-- ACD = `PLL_ACD[ACD_W−1:0]` (30_encoding.md R107). -/
def State.fieldACD (s : State) : Nat := (keepLow s.params.acdW s.pllAcd).toNat

/-- The pair of `FRAC_INIT`, its bits [15:0] (10_state.md R36). -/
def State.initPair (s : State) : Half := s.fracInit.extractLsb' 0 16

/-- `LUT_SIZE`, bits [LUT_AW:0] (10_state.md R42). -/
def State.tableSize (s : State) : Nat := (keepLow (s.params.lutAW + 1) s.lutSize).toNat

/-- `LUT_ADDR`, bits [LUT_AW−1:0] (10_state.md R43). -/
def State.lutPointer (s : State) : Nat := (keepLow s.params.lutAW s.lutAddr).toNat

/-- A count as a register holds it: its bits [CNT_W−1:0] (10_state.md R38, R45, R52). -/
def State.countWord (s : State) (w : Word) : Word := keepLow s.params.cntW w

/-- `MEAS_COUNT` read as `zext_CNT_W` (30_encoding.md R114). -/
def State.measured (s : State) : Int := (s.countWord s.measCount).toNat

/-- `PREV_COUNT` read as `zext_CNT_W` (30_encoding.md R114). -/
def State.previous (s : State) : Int := (s.countWord s.prevCount).toNat

/-- `EXP_INC`, an unsigned integer (30_encoding.md R114). -/
def State.expected (s : State) : Int := s.expInc.toNat

/-- `PERIOD_FRAC`, UQ16.16, as its raw integer (30_encoding.md R111). -/
def State.periodRaw (s : State) : Int := s.periodFrac.toNat

/-- 1.0 in UQ16.16 (00_scope.md R10). -/
def onePointZero : Word := 0x00010000#32

/-- A gain register, UQ16.16, as its raw integer (30_encoding.md R110). -/
def gainRaw (w : Word) : Int := w.toNat

/-- An accumulator, signed Q16, as its raw integer (30_encoding.md R112). -/
def accRaw (w : Wide) : Int := w.toInt

/-- A windup limit, unsigned with 32 fraction bits, as its raw integer (30_encoding.md R113). -/
def limitRaw (w : Wide) : Int := w.toNat

/-- `RES_ERROR` read as `sext_32` (30_encoding.md R114). -/
def State.errorOperand (s : State) : Int := s.resError.toInt

/-- Bits [31:0] of a 64-bit quantity, its `_LO` register (20_memory.md R75). -/
def lowHalf (q : Wide) : Word := q.extractLsb' 0 32

/-- Bits [63:32] of a 64-bit quantity, its `_HI` register (20_memory.md R75). -/
def highHalf (q : Wide) : Word := q.extractLsb' 32 32

end Sys2Proof.Machine
end

