-- ==== Sys2Proof/Machine/Flags.lean ====
section
/-! DEFINITION. The status codes and words: `STATUS.LOCK` (30_encoding.md R108), the fault cause codes (R109), the
`STATUS` and `FAULT_INFO` registers (10_state.md R23, R32), the mode (R68, 44_command_control.md R263), the saturation
flags (43_controller.md R223) and the three output signals (00_scope.md R14). -/

namespace Sys2Proof.Machine

/-- The code of a lock status in `STATUS.LOCK` (30_encoding.md R108). -/
def LockStatus.code : LockStatus → BitVec 2
  | .locked => 0b00#2
  | .unlockedHigh => 0b01#2
  | .unlockedLow => 0b11#2
  | .none => 0b10#2

/-- The code of a fault cause in `FAULT_INFO.CAUSE` (30_encoding.md R109). -/
def FaultCause.code : FaultCause → BitVec 8
  | .none => 0x00#8
  | .cfgFRange => 0x01#8
  | .cfgFrac => 0x02#8
  | .cfgVcoLow => 0x03#8
  | .cfgVcoHigh => 0x04#8
  | .lutSize => 0x05#8
  | .lutHole => 0x06#8
  | .lutFrac => 0x07#8
  | .lutNonmono => 0x08#8
  | .tickPfZero => 0x09#8

/-- The causes whose `INDEX` names a LUT entry; for every other cause it is 0 (10_state.md R32). -/
def FaultCause.namesEntry : FaultCause → Bool
  | .lutHole | .lutFrac | .lutNonmono => true
  | _ => false

/-- One flag as one bit. -/
def flagBit (b : Bool) : BitVec 1 := BitVec.ofBool b

/-- `STATUS`: CFG_OK [0], READY [1], RUN [2], FAULT [3], LOCK [5:4], ACC_SAT [6], ACC2_SAT [7], CMD_ERR [8],
WR_IGN [9], the rest 0 (10_state.md R23). -/
def State.statusWord (s : State) : Word :=
  (0#22 ++ flagBit s.wrIgn ++ flagBit s.cmdErr ++ flagBit s.acc2Sat ++ flagBit s.accSat ++ s.lock.code ++
    flagBit s.fault ++ flagBit s.run ++ flagBit s.ready ++ flagBit s.cfgOk : BitVec 32)

/-- `FAULT_INFO`: CAUSE [7:0], INDEX [31:16] (10_state.md R32). -/
def State.faultInfoWord (s : State) : Word := (s.faultIndex ++ 0#8 ++ s.faultCause.code : BitVec 32)

/-- The five modes (10_state.md R68). -/
inductive Mode where
  | idle | configured | ready | running | faulted
deriving DecidableEq, Repr

/-- The mode of the block (44_command_control.md R263). -/
def State.mode (s : State) : Mode :=
  if s.fault then .faulted
  else if s.run then .running
  else if s.ready then .ready
  else if s.cfgOk then .configured
  else .idle

/-- Whether an exact sum does not fit N signed bits, so that `sat_s` stores another value (43_controller.md R223). -/
def saturates (n : Nat) (v : Int) : Bool := decide ((satS n v).toInt ≠ v)

/-- `frac_o[15:0]`, the active pair (00_scope.md R14). -/
def State.fracO (s : State) : Half := s.fracOut

/-- `lock_o[1:0]`, `STATUS.LOCK` (00_scope.md R14). -/
def State.lockO (s : State) : BitVec 2 := s.lock.code

/-- `fault_o`, `STATUS.FAULT` (00_scope.md R14). -/
def State.faultO (s : State) : Bool := s.fault

end Sys2Proof.Machine
end

