-- ==== Sys2Proof/Machine/Ops.lean ====
section
/-! DEFINITION. The shared operations: the LUT RAM (10_state.md R63), fault entry and the one way out of it
(60_exceptions.md R300, R303), the refused command and the ignored write (R306, R307), the answer to an access, and
the frame every command runs in (44_command_control.md R264). -/

namespace Sys2Proof.Machine

/-- The byte at an address; a byte that was never written reads as no value (log 4). -/
def Memory.read : Memory → Nat → Option (BitVec 8)
  | [], _ => none
  | (a, b) :: m, x => if a = x then some b else Memory.read m x

/-- Write one byte, keeping the addresses strictly rising. -/
def Memory.write : Memory → Nat → BitVec 8 → Memory
  | [], x, v => [(x, v)]
  | (a, b) :: m, x, v =>
    if x < a then (x, v) :: (a, b) :: m
    else if x = a then (x, v) :: m
    else (a, b) :: Memory.write m x v

/-- The address of the low byte (p) of `LUT[i]`; its high byte (f) is the next (log 4). -/
def lutByte (i : Nat) : Nat := 2 * i

/-- `LUT[i]` when `LUTV[i]` = 1, and `none` when `LUTV[i]` = 0 (10_state.md R63). -/
def Memory.word? (m : Memory) (i : Nat) : Option Half :=
  match m.read (lutByte i), m.read (lutByte i + 1) with
  | some p, some f => some (f ++ p : BitVec 16)
  | _, _ => none

/-- `LUT[i] <- w`, `LUTV[i] <- 1` (20_memory.md R77). -/
def Memory.setWord (m : Memory) (i : Nat) (w : Half) : Memory :=
  (m.write (lutByte i) (w.extractLsb' 0 8)).write (lutByte i + 1) (w.extractLsb' 8 8)

/-- `LUTV[i]` (10_state.md R63). -/
def State.lutWritten (s : State) (i : Nat) : Bool := (s.lut.word? i).isSome

/-- `LUT[i]`, the free value of log 5 where it was never written. -/
def State.lutWord (s : State) (i : Nat) : Half := (s.lut.word? i).getD (Config.unwrittenLutWord i)

/-- `raise Fault(cause, index)`, the one fault entry (60_exceptions.md R300): it writes STATUS.FAULT and FAULT_INFO
and nothing else, and the command ends. -/
def State.raiseFault (cause : FaultCause) (index : Nat) (s : State) : State :=
  { s with fault := true, faultCause := cause, faultIndex := BitVec.ofNat 16 index }

/-- Reset, the one way out of the fault state (60_exceptions.md R303, 70_reset_and_hazards.md R340): every piece of
state takes its reset value. The parameters are constants, and the host's events still to come are not the block's
(log 6). -/
def State.hardReset (s : State) : State := { State.resetWith s.params with pending := s.pending }

/-- `raise CmdErr()`: set the sticky CMD_ERR and nothing else (60_exceptions.md R306). -/
def State.raiseCmdErr (s : State) : State := { s with cmdErr := true }

/-- A write to a locked register: ignored, and the sticky WR_IGN is set (10_state.md R64, 60_exceptions.md R307). -/
def State.ignoreWrite (s : State) : State := { s with wrIgn := true }

/-- The host's events once the first of them is taken (log 2). -/
def State.dequeue (rest : List HostEvent) (s : State) : State := { s with pending := rest }

/-- The block's answer to the access in progress (log 3). -/
def State.respond (r : Response) (s : State) : State := { s with response := r }

/-- The frame of a command (44_command_control.md R264): in FAULTED no effect (60_exceptions.md R302), in a mode that
refuses it `CmdErr`, in a mode that runs it its effect. -/
def State.command (runs : Bool) (effect : State → State) (s : State) : Host.Outcome State Fault Refusal :=
  if s.fault then .next s
  else if runs then .next (effect s)
  else .next s.raiseCmdErr

end Sys2Proof.Machine
end

