-- ==== Sys2Proof/Machine/Validator.lean ====
section
/-! DEFINITION. The output-frequency validator (40_frequency_validator.md): the combinational checks and outputs
(R140 to R145) and the VALIDATE command (R146). -/

namespace Sys2Proof.Machine

/-- The pair the validator uses: `FRAC_INIT` while CFG_OK = 0, the active pair while CFG_OK = 1 (R144). -/
def State.selectedPair (s : State) : Half := if s.cfgOk then s.fracOut else s.initPair

/-- F ∈ [1, 8191] (R140). -/
def State.fOk (s : State) : Bool := decide (1 ≤ s.fieldF) && decide (s.fieldF ≤ 8191)

/-- R ∈ [0, 63] (R141). -/
def State.rOk (s : State) : Bool := decide (s.fieldR ≤ 63)

/-- OD ∈ [0, 7] (R141). -/
def State.odOk (s : State) : Bool := decide (s.fieldOD ≤ 7)

/-- f < p for a pair (R142). -/
def pairOk (w : Half) : Bool := decide (pairF w < pairP w)

/-- v = IN·(F+1) (R143). -/
def State.vcoProduct (s : State) : Nat := s.inHz * (s.fieldF + 1)

/-- The VCO frequency is at least 360 MHz, exactly (R143). -/
def State.vcoLoOk (s : State) : Bool := decide (720000000 * (s.fieldR + 1) ≤ s.vcoProduct)

/-- The VCO frequency is at most 1800 MHz, exactly (R143). -/
def State.vcoHiOk (s : State) : Bool := decide (s.vcoProduct ≤ 3600000000 * (s.fieldR + 1))

/-- `VCHECK.ALL_OK` (R143). -/
def State.allOk (s : State) : Bool :=
  s.fOk && s.rOk && s.odOk && pairOk s.selectedPair && s.vcoLoOk && s.vcoHiOk

/-- `VCHECK`: F_OK [0], R_OK [1], OD_OK [2], FP_OK [3], VCO_LO_OK [4], VCO_HI_OK [5], ALL_OK [6]
(10_state.md R57). -/
def State.vcheckWord (s : State) : Word :=
  (0#25 ++ flagBit s.allOk ++ flagBit s.vcoHiOk ++ flagBit s.vcoLoOk ++ flagBit (pairOk s.selectedPair) ++
    flagBit s.odOk ++ flagBit s.rOk ++ flagBit s.fOk : BitVec 32)

/-- The numerator of the output frequency for a pair (R145). -/
def State.freqNumOf (s : State) (w : Half) : Nat :=
  s.inHz * ((s.fieldF + 1) * (pairP w + 1) + (pairF w + 1))

/-- The denominator of the output frequency for a pair (R145). -/
def State.freqDenOf (s : State) (w : Half) : Nat :=
  4 * (pairP w + 1) * (s.fieldR + 1) * (s.fieldOD + 1) * (s.fieldACD + 1)

/-- `FREQ_NUM`, 64 bits (R145). -/
def State.freqNum (s : State) : Wide := BitVec.ofNat 64 (s.freqNumOf s.selectedPair)

/-- `FREQ_DEN` (R145). -/
def State.freqDen (s : State) : Word := BitVec.ofNat 32 (s.freqDenOf s.selectedPair)

/-- `FREQ_HZ`, whole hertz rounded down, saturated (R145). -/
def State.freqHz (s : State) : Word :=
  satU 32 (floorDiv (s.freqNumOf s.selectedPair) (s.freqDenOf s.selectedPair))

/-- `VCO_HZ`, whole hertz rounded down, saturated (R145). -/
def State.vcoHz (s : State) : Word := satU 32 (floorDiv s.vcoProduct (2 * (s.fieldR + 1)))

/-- VALIDATE's checks in their order, on `FRAC_INIT`: the first that fails (R146, 60_exceptions.md R304). -/
def State.configFault? (s : State) : Option FaultCause :=
  if !s.fOk then some .cfgFRange
  else if !pairOk s.initPair then some .cfgFrac
  else if !s.vcoLoOk then some .cfgVcoLow
  else if !s.vcoHiOk then some .cfgVcoHigh
  else none

/-- A passing VALIDATE: `FRAC_OUT <- FRAC_INIT[15:0]`, `CFG_OK <- 1` (R146). -/
def State.passValidate (s : State) : State := { s with fracOut := s.initPair, cfgOk := true }

/-- VALIDATE once its mode allows it (R146). -/
def State.validate (s : State) : State :=
  match s.configFault? with
  | some cause => s.raiseFault cause 0
  | none => s.passValidate

/-- VALIDATE (R146): runs in IDLE, refused when CFG_OK = 1. -/
def execValidate (s : State) : Host.Outcome State Fault Refusal := s.command (!s.cfgOk) State.validate

end Sys2Proof.Machine
end

