-- ==== Sys2Proof/Machine/Lut.lean ====
section
/-! DEFINITION. The register LUT (41_lut.md): the build-time checks (R172, R173), the windup limits (R175) and the
BUILD command (R174). -/

namespace Sys2Proof.Machine

/-- The checks of entry i, in their order: hole, fraction, monotonicity against entry i − 1 (R173). -/
def State.entryFault? (s : State) (i : Nat) : Option FaultCause :=
  match s.lut.word? i with
  | none => some .lutHole
  | some w =>
    if !pairOk w then some .lutFrac
    else if decide (1 ≤ i) && !termLe (s.lutWord (i - 1)) w then some .lutNonmono
    else none

/-- Entries `i`, `i + 1`, ... (`left` of them) in ascending order: the first that fails, and its index (R173). -/
def State.scanEntries (s : State) : (left i : Nat) → Option (FaultCause × Nat)
  | 0, _ => none
  | left + 1, i =>
    match s.entryFault? i with
    | some cause => some (cause, i)
    | none => State.scanEntries s left (i + 1)

/-- BUILD's checks: the size (R172), then every entry from 0 to `LUT_SIZE` − 1 (R173). -/
def State.tableFault? (s : State) : Option (FaultCause × Nat) :=
  if s.tableSize < 1 ∨ s.params.lutMax < s.tableSize then some (.lutSize, 0)
  else s.scanEntries s.tableSize 0

/-- `WindupLimit(n, K)`, scale 2^−32 (R175). -/
def windupLimit (n k : Nat) : Nat := if k = 0 then 0 else n * 2 ^ 48 / k

/-- A passing BUILD: both limits and READY (R174). -/
def State.passBuild (s : State) : State :=
  { s with
    limitI := BitVec.ofNat 64 (windupLimit s.tableSize s.ki.toNat)
    limitII := BitVec.ofNat 64 (windupLimit s.tableSize s.kii.toNat)
    ready := true }

/-- BUILD once its mode allows it (R174). -/
def State.build (s : State) : State :=
  match s.tableFault? with
  | some (cause, i) => s.raiseFault cause i
  | none => s.passBuild

/-- BUILD (R174): runs in CONFIGURED, refused when CFG_OK = 0 or READY = 1. -/
def execBuild (s : State) : Host.Outcome State Fault Refusal := s.command (s.cfgOk && !s.ready) State.build

end Sys2Proof.Machine
end

