-- ==== Sys2Proof/Machine/Mapper.lean ====
section
/-! DEFINITION. The error-to-index mapper (42_mapper.md): Resolve (R200) and the RESOLVE command (R201). -/

namespace Sys2Proof.Machine

/-- The unclamped set point `floor(n/2) − err` (R200 step 1). -/
def setPoint (n : Nat) (err : Int) : Int := floorDiv n 2 - err

/-- The clamped index of a set point (R200 step 2). -/
def clampIndex (n : Nat) (sp : Int) : Nat :=
  if sp < 0 then 0 else if (n : Int) ≤ sp then n - 1 else sp.toNat

/-- The lock status of a set point (R200 step 2). -/
def lockOf (n : Nat) (sp : Int) : LockStatus :=
  if sp < 0 then .unlockedLow else if (n : Int) ≤ sp then .unlockedHigh else .locked

/-- The set point of an error in this machine's table. -/
def State.setPointOf (s : State) (err : Int) : Int := setPoint s.tableSize err

/-- The index an error selects in this machine's table. -/
def State.selectIndex (s : State) (err : Int) : Nat := clampIndex s.tableSize (s.setPointOf err)

/-- `Resolve(err)` (R200): the active pair, `INDEX`, `STATUS.LOCK`, and the saturated copies `SETPOINT` and
`TOTAL_ERR`; nothing else. -/
def State.resolve (err : Int) (s : State) : State :=
  { s with
    fracOut := s.lutWord (s.selectIndex err)
    index := keepLow s.params.lutAW (BitVec.ofNat 32 (s.selectIndex err))
    lock := lockOf s.tableSize (s.setPointOf err)
    setpoint := satS 32 (s.setPointOf err)
    totalErr := satS 32 err }

/-- RESOLVE once its mode allows it (R201). -/
def State.resolveOperand (s : State) : State := s.resolve s.errorOperand

/-- RESOLVE (R201): runs in READY and RUNNING, refused when READY = 0. -/
def execResolve (s : State) : Host.Outcome State Fault Refusal := s.command s.ready State.resolveOperand

end Sys2Proof.Machine
end

