-- ==== Sys2Proof/Machine/Controller.lean ====
section
/-! DEFINITION. The PI/PII controller (43_controller.md): INIT (R220), the steps of a tick (R222 to R229) and the TICK
command (R221). Every intermediate is an exact integer (00_scope.md R8). -/

namespace Sys2Proof.Machine

/-- INIT once its mode allows it (R220). -/
def State.initController (s : State) : State :=
  { s with
    acc := 0#64
    acc2 := 0#64
    accSat := false
    acc2Sat := false
    prevCount := s.countWord s.initCount
    fracOut := s.initPair
    index := 0#32
    setpoint := 0#32
    totalErr := 0#32
    lock := .none
    run := true }

/-- INIT (R220): runs in READY and RUNNING, refused when READY = 0. -/
def execInit (s : State) : Host.Outcome State Fault Refusal := s.command s.ready State.initController

/-- The count difference modulo 2^CNT_W (R222, R232). -/
def State.countDiff (s : State) : Int := modulo (s.measured - s.previous) (2 ^ s.params.cntW)

/-- The count increment in Q16, rounded down (R222). -/
def State.countIncrement (s : State) : Int := floorDiv (s.countDiff * 2 ^ 32) s.periodRaw

/-- The raw error in Q16, unbounded and never stored (R222). -/
def State.rawError (s : State) : Int := s.countIncrement - s.expected * 2 ^ 16

/-- The exact sum `ACC + e` (R223). -/
def State.accSum (s : State) : Int := accRaw s.acc + s.rawError

/-- The new `ACC` (R223). -/
def State.nextAcc (s : State) : Wide := satS 64 s.accSum

/-- The exact sum `ACC2 + ACC` with the new `ACC` (R223). -/
def State.acc2Sum (s : State) : Int := accRaw s.acc2 + accRaw s.nextAcc

/-- The new `ACC2` (R223). -/
def State.nextAcc2 (s : State) : Wide := satS 64 s.acc2Sum

/-- The proportional term, scale 2^−32, not clamped (R224). -/
def State.termP (s : State) : Int := gainRaw s.kp * s.rawError

/-- The integral term with the new `ACC`, clamped to ±`LIMIT_I` (R225). -/
def State.termI (s : State) : Int := clamp (gainRaw s.ki * accRaw s.nextAcc) (-limitRaw s.limitI) (limitRaw s.limitI)

/-- The double-integral term with the new `ACC2`, clamped to ±`LIMIT_II` (R226). -/
def State.termII (s : State) : Int :=
  clamp (gainRaw s.kii * accRaw s.nextAcc2) (-limitRaw s.limitII) (limitRaw s.limitII)

/-- The total error, rounded toward zero (R227). -/
def State.totalError (s : State) : Int := truncDiv (s.termP + s.termI + s.termII) (2 ^ 32)

/-- What a tick does to the controller's own state before it resolves: the count (R229), the accumulators and their
sticky flags (R223). -/
def State.integrate (s : State) : State :=
  { s with
    prevCount := s.countWord s.measCount
    acc := s.nextAcc
    accSat := s.accSat || saturates 64 s.accSum
    acc2 := s.nextAcc2
    acc2Sat := s.acc2Sat || saturates 64 s.acc2Sum }

/-- The reload of `PERIOD_FRAC` that ends a completed tick (R228). -/
def State.reloadPeriod (s : State) : State := { s with periodFrac := onePointZero }

/-- TICK once its mode allows it: the fault check first, then the control step (R221). -/
def State.tick (s : State) : State :=
  if s.periodRaw = 0 then s.raiseFault .tickPfZero 0
  else (s.integrate.resolve s.totalError).reloadPeriod

/-- TICK (R221): runs in RUNNING, refused when RUN = 0. -/
def execTick (s : State) : Host.Outcome State Fault Refusal := s.command s.run State.tick

end Sys2Proof.Machine
end

