-- ==== Sys2Proof/Machine/CommandControl.lean ====
section
/-! DEFINITION. Command control (44_command_control.md): NOP (R260) and CLEAR (R262). -/

namespace Sys2Proof.Machine

/-- NOP (R260): no effect, in every mode. -/
def execNop (s : State) : Host.Outcome State Fault Refusal := s.command true id

/-- CLEAR's effect (R262): back to IDLE, the sticky interface flags cleared, the last resolution forgotten; the LUT
RAM, the active pair, the accumulators and the saturation flags are kept. -/
def State.clearModes (s : State) : State :=
  { s with
    cfgOk := false
    ready := false
    run := false
    cmdErr := false
    wrIgn := false
    lock := .none
    index := 0#32
    setpoint := 0#32
    totalErr := 0#32 }

/-- CLEAR (R262): runs in every mode but FAULTED. -/
def execClear (s : State) : Host.Outcome State Fault Refusal := s.command true State.clearModes

end Sys2Proof.Machine
end

