-- ==== Sys2Proof/Machine/Registers.lean ====
section
/-! DEFINITION. The register window (10_state.md): access rights, lock classes (R64) and masks (R65) of every
register, host reads (20_memory.md R87) and host writes of registers other than `CMD` (R86). -/

namespace Sys2Proof

open Sys2Proof.Machine

/-- The lock classes (10_state.md R64). -/
inductive LockClass where
  | c | l | s | o
deriving DecidableEq, Repr

/-- The lock class of a writable register; `none` for `CMD` and for the read-only registers, whose writes have no
effect (10_state.md R64, 20_memory.md R73). -/
def Reg.lockClass? : Reg → Option LockClass
  | .inFreq | .pllCtl | .pllAcd | .fracInit => some .c
  | .kp | .ki | .kii | .lutSize | .lutData => some .l
  | .expInc | .initCount => some .s
  | .lutAddr | .measCount | .periodFrac | .resError => some .o
  | .id | .cmd | .status | .faultInfo | .fracOut | .index | .setpoint | .totalErr | .prevCount
  | .accLo | .accHi | .acc2Lo | .acc2Hi | .limitILo | .limitIHi | .limitIILo | .limitIIHi
  | .vcheck | .freqNumLo | .freqNumHi | .freqDen | .freqHz | .vcoHz | .params => none

/-- `mask(REG)`: the bits a register stores (10_state.md R33 to R47, R65). -/
def Reg.mask (p : Params) : Reg → Word
  | .pllCtl => fieldMask 0 13 ||| fieldMask 16 6 ||| fieldMask 24 3
  | .pllAcd => fieldMask 0 p.acdW
  | .fracInit | .lutData | .fracOut => fieldMask 0 16
  | .initCount | .measCount | .prevCount => fieldMask 0 p.cntW
  | .lutSize => fieldMask 0 (p.lutAW + 1)
  | .lutAddr | .index => fieldMask 0 p.lutAW
  | _ => fieldMask 0 32

/-- `PARAMS`: CNT_W [5:0], LUT_AW [11:8], ACD_W [19:16] (10_state.md R62). -/
def Params.word (p : Params) : Word :=
  (0#12 ++ BitVec.ofNat 4 p.acdW ++ 0#4 ++ BitVec.ofNat 4 p.lutAW ++ 0#2 ++ BitVec.ofNat 6 p.cntW : BitVec 32)

end Sys2Proof

namespace Sys2Proof.Machine

/-- Whether a class can be written in this state (10_state.md R64). -/
def State.unlocked (s : State) : LockClass → Bool
  | .c => !s.cfgOk
  | .l => !s.ready
  | .s => !s.run
  | .o => true

/-- The read of `LUT_DATA`: the word at the pointer, 0 where none was written (20_memory.md R76). -/
def State.lutDataRead (s : State) : Word := ((s.lut.word? s.lutPointer).getD 0#16).setWidth 32

/-- The value of a register before its mask: stored, constant, or computed now (20_memory.md R87). -/
def State.regValue (s : State) : Reg → Word
  | .id => 0x53570001#32
  | .cmd => 0#32
  | .status => s.statusWord
  | .faultInfo => s.faultInfoWord
  | .inFreq => s.inFreq
  | .pllCtl => s.pllCtl
  | .pllAcd => s.pllAcd
  | .fracInit => s.fracInit
  | .expInc => s.expInc
  | .initCount => s.initCount
  | .kp => s.kp
  | .ki => s.ki
  | .kii => s.kii
  | .lutSize => s.lutSize
  | .lutAddr => s.lutAddr
  | .lutData => s.lutDataRead
  | .measCount => s.measCount
  | .periodFrac => s.periodFrac
  | .resError => s.resError
  | .fracOut => s.fracOut.setWidth 32
  | .index => s.index
  | .setpoint => s.setpoint
  | .totalErr => s.totalErr
  | .prevCount => s.prevCount
  | .accLo => lowHalf s.acc
  | .accHi => highHalf s.acc
  | .acc2Lo => lowHalf s.acc2
  | .acc2Hi => highHalf s.acc2
  | .limitILo => lowHalf s.limitI
  | .limitIHi => highHalf s.limitI
  | .limitIILo => lowHalf s.limitII
  | .limitIIHi => highHalf s.limitII
  | .vcheck => s.vcheckWord
  | .freqNumLo => lowHalf s.freqNum
  | .freqNumHi => highHalf s.freqNum
  | .freqDen => s.freqDen
  | .freqHz => s.freqHz
  | .vcoHz => s.vcoHz
  | .params => s.params.word

/-- What a host read of a register returns: its value with reserved bits 0 (20_memory.md R87). -/
def State.readReg (s : State) (r : Reg) : Word := s.regValue r &&& r.mask s.params

/-- Store a value in a plain readable and writable register, whatever its lock; no other register changes. -/
def State.storeReg (r : Reg) (v : Word) (s : State) : State :=
  match r with
  | .inFreq => { s with inFreq := v }
  | .pllCtl => { s with pllCtl := v }
  | .pllAcd => { s with pllAcd := v }
  | .fracInit => { s with fracInit := v }
  | .expInc => { s with expInc := v }
  | .initCount => { s with initCount := v }
  | .kp => { s with kp := v }
  | .ki => { s with ki := v }
  | .kii => { s with kii := v }
  | .lutSize => { s with lutSize := v }
  | .lutAddr => { s with lutAddr := v }
  | .measCount => { s with measCount := v }
  | .periodFrac => { s with periodFrac := v }
  | .resError => { s with resError := v }
  | _ => s

/-- The stored write of `LUT_DATA`: the word, its written bit, and the pointer modulo `LUT_MAX` (20_memory.md R77). -/
def State.storeLutData (v : Word) (s : State) : State :=
  { s with
    lut := s.lut.setWord s.lutPointer (v.extractLsb' 0 16)
    lutAddr := BitVec.ofNat 32 ((s.lutPointer + 1) % s.params.lutMax) }

/-- The effect of a host write to a register other than `CMD` in a block that has not faulted (20_memory.md R86):
nothing for a read-only register, WR_IGN for a locked one, else the masked value or the LUT port. -/
def State.writeReg (r : Reg) (v : Word) (s : State) : State :=
  match r.lockClass? with
  | none => s
  | some k =>
    if !s.unlocked k then s.ignoreWrite
    else if r = .lutData then s.storeLutData v
    else s.storeReg r (v &&& r.mask s.params)

end Sys2Proof.Machine
end

