-- ==== Sys2Proof/Machine/Bus.lean ====
section
/-! DEFINITION. The access functions of the window (20_memory.md R86, R87), the command word (30_encoding.md R100)
and the host's events. -/

namespace Sys2Proof.Machine

/-- Whether an access raises `BusError`: a width other than 4 bytes, a misaligned offset, or an offset above 0x98
(20_memory.md R72, R74; 60_exceptions.md R308). -/
def busError (addr : Offset) (n : Nat) : Bool :=
  n != 4 || addr.toNat % 4 != 0 || decide (0x98 < addr.toNat)

/-- `MemRead(addr, n)`: what the block answers; no state changes (20_memory.md R82, R87). A bus error gives data 0. -/
def State.memRead (s : State) (addr : Offset) (n : Nat) : Response :=
  if busError addr n then .readError 0#32
  else match regAt? addr with
    | some r => .readOk (s.readReg r)
    | none => .readError 0#32

/-- `Execute(v)` (30_encoding.md R100): the decoded command, or `CmdErr` for a refused word. -/
def State.execute (v : Word) (s : State) : Host.Outcome State Fault Refusal :=
  match decode v with
  | .ok i => exec i s
  | .error _ => .next s.raiseCmdErr

/-- `MemWrite(addr, n, v)` (20_memory.md R86). The answer is an error only for a bus error: a write that is ignored,
refused, or made in FAULTED completes (log 10). -/
def State.memWrite (addr : Offset) (n : Nat) (v : Word) (s : State) : Host.Outcome State Fault Refusal :=
  if busError addr n then .next (s.respond .writeError)
  else if s.fault then .next (s.respond .writeOk)
  else match regAt? addr with
    | some .cmd => (s.respond .writeOk).execute v
    | some r => .next ((s.respond .writeOk).writeReg r v)
    | none => .next (s.respond .writeError)

/-- One host event (20_memory.md R79, 70_reset_and_hazards.md R341): it takes effect completely. -/
def State.perform (e : HostEvent) (s : State) : Host.Outcome State Fault Refusal :=
  match e with
  | .read addr n => .next (s.respond (s.memRead addr n))
  | .write addr n v => s.memWrite addr n v
  | .reset => .next s.hardReset

/-- Take the next host event; with none waiting the block does nothing (70_reset_and_hazards.md R342,
60_exceptions.md R318). -/
def State.serve (s : State) : Host.Outcome State Fault Refusal :=
  match s.pending with
  | [] => .next s
  | e :: rest => (s.dequeue rest).perform e

/-- The event that gives the block a command word: an aligned 32-bit write to `CMD` (30_encoding.md R100). -/
def commandEvent (v : Word) : HostEvent := .write Reg.cmd.offset 4 v

/-- The machine with host events put before those already waiting: how a program reaches the block (log 2). -/
def State.withEvents (es : List HostEvent) (s : State) : State := { s with pending := es ++ s.pending }

end Sys2Proof.Machine
end

