-- ==== Sys2Proof/Machine/Step.lean ====
section
/-! DEFINITION. One step of the machine: one host event (20_memory.md R79). -/

namespace Sys2Proof.Machine

/-- One atomic step: the block serves the next host event (00_scope.md R13). -/
def step (s : State) : Host.Outcome State Fault Refusal := s.serve

/-- The state whose very next step runs the command word `w`: its write to `CMD` comes first among the host's events
(log 2). Nothing else changes. -/
def State.withFetchWord (s : State) (nbits w : Nat) : State :=
  s.withEvents [commandEvent (BitVec.ofNat 32 (w % 2 ^ nbits))]

end Sys2Proof.Machine
end

