-- ==== Sys2Proof/Safety.lean ====
section
/-! DEFINITION. The terms in which claims about the machine are stated: runs of host events, the mode table
(44_command_control.md R264, R265), what every reachable state keeps (`State.Inv`), and the reachable states. -/

namespace Sys2Proof

open Sys2Proof.Machine

/-- The modes in which a command is performed: the "run" entries of 44_command_control.md R264. -/
def Instr.runsIn : Instr → Mode → Bool
  | .nop, m => m != .faulted
  | .validate, m => m == .idle
  | .build, m => m == .configured
  | .init, m => m == .ready || m == .running
  | .tick, m => m == .running
  | .resolve, m => m == .ready || m == .running
  | .clear, m => m != .faulted

/-- The transitions between modes that a command can cause (44_command_control.md R265). -/
def Instr.transition : Instr → Mode → Mode → Bool
  | .validate, .idle, .configured => true
  | .validate, .idle, .faulted => true
  | .build, .configured, .ready => true
  | .build, .configured, .faulted => true
  | .init, .ready, .running => true
  | .init, .running, .running => true
  | .tick, .running, .running => true
  | .tick, .running, .faulted => true
  | .clear, m, .idle => m != .faulted
  | _, _, _ => false

end Sys2Proof

namespace Sys2Proof.Machine

/-- The host writes the command word of `i` to `CMD` (30_encoding.md R100, R102). -/
def commandOf (i : Instr) : HostEvent := commandEvent (encode i)

/-- The host writes register `r` by an aligned 32-bit access. -/
def writesReg (r : Reg) : HostEvent → Bool
  | .write addr n _ => addr == r.offset && n == 4
  | _ => false

/-- The host writes a register of class C (10_state.md R64) by an aligned 32-bit access. -/
def writesClassC (e : HostEvent) : Bool :=
  writesReg .inFreq e || writesReg .pllCtl e || writesReg .pllAcd e || writesReg .fracInit e

/-- The event is a read. -/
def isRead : HostEvent → Bool
  | .read _ _ => true
  | _ => false

/-- Entry `i` of the table is good: written, f < p, and for i ≥ 1 not below entry i − 1 (41_lut.md R173). -/
def State.goodEntry (s : State) (i : Nat) : Prop :=
  ∃ w, s.lut.word? i = some w ∧ pairF w < pairP w ∧
    (1 ≤ i → ∃ v, s.lut.word? (i - 1) = some v ∧
      (pairF v + 1) * (pairP w + 1) ≤ (pairF w + 1) * (pairP v + 1))

/-- The accesses of `k` ticks whose counts advance by `d` each, from the count `c` (30_encoding.md R116, `TICK c`). -/
def tickTrain (cntW c d k : Nat) : List HostEvent :=
  (List.range k).flatMap fun j =>
    [.write Reg.measCount.offset 4 (BitVec.ofNat 32 ((c + (j + 1) * d) % 2 ^ cntW)), commandOf .tick]

/-- Host events performed one after another, each completely before the next (20_memory.md R79). -/
def State.runEvents : List HostEvent → State → Host.Outcome State Fault Refusal
  | [], s => .next s
  | e :: es, s =>
    match s.perform e with
    | .next t => State.runEvents es t
    | .fault r => .fault r
    | .refused r => .refused r

/-- The event takes the block from `s` to `t`, whatever the block answers to it (the answer is the model's own field,
log 3). -/
def State.eventGives (s : State) (e : HostEvent) (t : State) : Prop := ∃ r, s.perform e = .next (t.respond r)

/-- RUN ≤ READY ≤ CFG_OK (10_state.md R68). -/
abbrev State.modesOrdered (s : State) : Prop := (s.run = true → s.ready = true) ∧ (s.ready = true → s.cfgOk = true)

/-- FAULT = 1 exactly when FAULT_INFO names a cause, and INDEX is 0 for a cause that names no entry
(10_state.md R32, 30_encoding.md R109). -/
abbrev State.faultRecorded (s : State) : Prop :=
  (s.fault = true ↔ s.faultCause ≠ .none) ∧ (s.faultCause.namesEntry = false → s.faultIndex = 0#16)

/-- The LUT memory is canonical, lies below `LUT_MAX` words, and holds whole words only (10_state.md R63). -/
abbrev State.lutOk (s : State) : Prop :=
  Memory.wf s.lut ∧
  (∀ c ∈ s.lut, c.1 < 2 * s.params.lutMax) ∧
  (∀ c ∈ s.lut, (s.lut.word? (c.1 / 2)).isSome = true)

/-- No register holds a reserved bit (10_state.md R65). -/
abbrev State.reservedZero (s : State) : Prop := ∀ r ∈ Reg.all, s.regValue r = s.readReg r

/-- While CFG_OK = 1 the configuration passes every check of VALIDATE and the active pair has f < p
(10_state.md R24, 40_frequency_validator.md R148). -/
abbrev State.configChecked (s : State) : Prop :=
  s.cfgOk = true → s.configFault? = none ∧ pairOk s.fracOut = true

/-- While READY = 1 the table passes every check of BUILD and the limits agree with the size and the gains
(41_lut.md R176). -/
abbrev State.tableChecked (s : State) : Prop :=
  s.ready = true →
    s.tableFault? = none ∧
    s.limitI = BitVec.ofNat 64 (windupLimit s.tableSize s.ki.toNat) ∧
    s.limitII = BitVec.ofNat 64 (windupLimit s.tableSize s.kii.toNat)

/-- LOCK = NONE says that no index was selected (10_state.md R49 to R51); any other LOCK that READY = 1, that INDEX
is an index of the table, and that the active pair is that entry (10_state.md R28, 42_mapper.md R200). -/
abbrev State.lockAgrees (s : State) : Prop :=
  (s.lock = .none → s.index = 0#32 ∧ s.setpoint = 0#32 ∧ s.totalErr = 0#32) ∧
  (s.lock ≠ .none →
    s.ready = true ∧ s.index.toNat < s.tableSize ∧ s.lut.word? s.index.toNat = some s.fracOut)

/-- What every reachable state keeps. -/
structure State.Inv (s : State) : Prop where
  paramsLegal : s.params.wf = true
  modes : s.modesOrdered
  faults : s.faultRecorded
  memory : s.lutOk
  reserved : s.reservedZero
  config : s.configChecked
  table : s.tableChecked
  resolution : s.lockAgrees

/-- The states a run reaches from reset with parameters `p`, whatever the host does. -/
inductive Reachable (p : Params) : State → Prop where
  | start (es : List HostEvent) : Reachable p ((State.resetWith p).withEvents es)
  | step {s t : State} : Reachable p s → Machine.step s = .next t → Reachable p t

end Sys2Proof.Machine
end

