-- ==== Sys2Proof/Certificates/Slice0/Obligations.lean ====
section
/-! DEFINITION. The statements for the provers, from the numbered rules of spec/. An event is what the host does
(log 2), `response` is the block's answer to it (log 3), and `Host.Outcome.next` is the one outcome a step has. -/

open Sys2Proof Sys2Proof.Machine

/-! ### Decoding and stepping -/

/-- The seven command words, written out from the encoding (30_encoding.md R102). -/
def Obligations.CommandWordsDecodeToTheirCommands : Prop :=
  decode 0x00000000#32 = .ok .nop ∧ decode 0x00000001#32 = .ok .validate ∧ decode 0x00000002#32 = .ok .build ∧
  decode 0x00000003#32 = .ok .init ∧ decode 0x00000004#32 = .ok .tick ∧ decode 0x00000005#32 = .ok .resolve ∧
  decode 0x00000006#32 = .ok .clear

/-- Decoding is total and exact on every 32-bit word: a command only from its own word, a reserved-bit refusal for
every word with one of bits [31:4] set, a reserved-OP refusal for OP 7 to 15 (30_encoding.md R100 to R104). -/
def Obligations.DecodingIsTotalAndExact : Prop :=
  ∀ w : Word,
    (∀ i, decode w = .ok i ↔ w = encode i) ∧
    (decode w = .error .reservedBits ↔ 16 ≤ w.toNat) ∧
    (∀ op : BitVec 4, decode w = .error (.reservedOp op) ↔ 7 ≤ w.toNat ∧ w.toNat < 16 ∧ op.toNat = w.toNat)

/-- A step takes the first waiting host event and performs it; with none waiting nothing changes
(20_memory.md R79, 70_reset_and_hazards.md R342; the event list is the model's, log 2). -/
def Obligations.StepPerformsTheFirstWaitingEvent : Prop :=
  ∀ s : State,
    (s.pending = [] → step s = .next s) ∧
    (∀ e rest, s.pending = e :: rest → step s = State.perform e { s with pending := rest })

/-- When the host's next event writes a word to `CMD` that decodes to `i`, the step is `exec i` at that state with
the event taken and answered (30_encoding.md R100); `withFetchWord` makes such a state. -/
def Obligations.StepRunsTheDecodedCommand : Prop :=
  (∀ (s : State) (v : Word) (i : Instr) (rest : List HostEvent),
    s.pending = .write 0x04#8 4 v :: rest → decode v = .ok i →
      step s = exec i { s with pending := rest, response := .writeOk }) ∧
  (∀ (s : State) (n w : Nat) (i : Instr),
    decodeTableWord n w = some i → step (s.withFetchWord n w) = exec i { s with response := .writeOk })

/-- No step stops: every state has a next one (60_exceptions.md R302, R308; 44_command_control.md R264; log 8). -/
def Obligations.EveryStepAnswersANextState : Prop := ∀ s : State, ∃ t, step s = .next t

/-- A refused word sets CMD_ERR and nothing else, whatever its OP field (30_encoding.md R101, R103); `NOP` has the
one encoding 0. -/
def Obligations.RefusedWordSetsOnlyCommandError : Prop :=
  (∀ (s : State) (v : Word), s.fault = false → (v.toNat / 16 ≠ 0 ∨ 7 ≤ v.toNat % 16) →
    s.eventGives (.write 0x04#8 4 v) { s with cmdErr := true }) ∧
  (∀ w : Word, decode w = .ok .nop ↔ w = 0x00000000#32)

/-! ### Modes -/

/-- The precondition table (44_command_control.md R264): FAULTED no effect, "refuse" only CMD_ERR, "run" the mode of
the last column; and its last row, the refused words. -/
def Obligations.CommandsFollowThePreconditionTable : Prop :=
  ∀ s : State, s.modesOrdered →
    (∀ i : Instr,
      (s.mode = .faulted → exec i s = .next s) ∧
      (s.mode ≠ .faulted → i.runsIn s.mode = false → exec i s = .next { s with cmdErr := true }) ∧
      (i.runsIn s.mode = true → ∃ t, exec i s = .next t ∧ (i ≠ .clear → t.cmdErr = s.cmdErr) ∧
        t.mode = match i with
          | .nop => s.mode
          | .validate => if (s.readReg .vcheck).getLsbD 6 then Mode.configured else Mode.faulted
          | .build => if s.tableFault? = none then Mode.ready else Mode.faulted
          | .init => Mode.running
          | .tick => if s.periodFrac = 0#32 then Mode.faulted else Mode.running
          | .resolve => s.mode
          | .clear => Mode.idle)) ∧
    (∀ (v : Word) (d : DecodeError), decode v = .error d →
      (s.mode ≠ .faulted → s.eventGives (.write 0x04#8 4 v) { s with cmdErr := true }) ∧
      (s.mode = .faulted → s.eventGives (.write 0x04#8 4 v) s))

/-- The mode changes by reset and by the listed transitions of commands, and by nothing else; from FAULTED only by
reset (44_command_control.md R265). -/
def Obligations.ModeChangesOnlyByListedTransitions : Prop :=
  ∀ (s t : State) (e : HostEvent), s.modesOrdered → s.perform e = .next t →
    t.modesOrdered ∧
    (e = .reset → t.mode = .idle) ∧
    (e ≠ .reset → s.mode = .faulted → t.mode = .faulted) ∧
    (t.mode = s.mode ∨ e = .reset ∨ ∃ i : Instr, e = commandOf i ∧ i.transition s.mode t.mode = true)

/-! ### NOP and CLEAR -/

/-- NOP changes nothing in any mode; a word with OP 0 and a reserved bit set is refused
(44_command_control.md R260). -/
def Obligations.NopLeavesEverything : Prop :=
  (∀ s : State, exec .nop s = .next s) ∧
  decode 0x00000000#32 = .ok .nop ∧
  (∀ s : State, s.eventGives (.write 0x04#8 4 0x00000000#32) s) ∧
  (∀ (s : State) (v : Word), s.fault = false → v.toNat % 16 = 0 → v.toNat / 16 ≠ 0 →
    s.eventGives (.write 0x04#8 4 v) { s with cmdErr := true })

/-- CLEAR's next state: the fields it writes, and every other kept, the LUT and its written bits among them; in
FAULTED no effect (44_command_control.md R262). -/
def Obligations.ClearReturnsToIdle : Prop :=
  ∀ s : State,
    (s.fault = false →
      exec .clear s = .next
        { s with
          cfgOk := false, ready := false, run := false, cmdErr := false, wrIgn := false, lock := .none
          index := 0#32, setpoint := 0#32, totalErr := 0#32 }) ∧
    (s.fault = true → exec .clear s = .next s)

/-! ### The validator -/

/-- VALIDATE's next state, check by check in its order, on the raw register bits (40_frequency_validator.md R146):
a pass copies `FRAC_INIT` to the active pair and sets CFG_OK; a failure records its cause and nothing else. -/
def Obligations.ValidateChecksThenLocks : Prop :=
  ∀ s : State, s.fault = false →
    (s.cfgOk = true → exec .validate s = .next { s with cmdErr := true }) ∧
    (s.cfgOk = false →
      let F := s.pllCtl.toNat % 8192
      let R := s.pllCtl.toNat / 65536 % 64
      let f := s.fracInit.toNat / 256 % 256
      let p := s.fracInit.toNat % 256
      let v := s.inFreq.toNat * (F + 1)
      exec .validate s = .next
        (if ¬(1 ≤ F ∧ F ≤ 8191) then { s with fault := true, faultCause := .cfgFRange, faultIndex := 0#16 }
         else if ¬f < p then { s with fault := true, faultCause := .cfgFrac, faultIndex := 0#16 }
         else if v < 720000000 * (R + 1) then
           { s with fault := true, faultCause := .cfgVcoLow, faultIndex := 0#16 }
         else if v > 3600000000 * (R + 1) then
           { s with fault := true, faultCause := .cfgVcoHigh, faultIndex := 0#16 }
         else { s with cfgOk := true, fracOut := s.fracInit.setWidth 16 }))

/-- In IDLE, VALIDATE raises a fault exactly when `VCHECK.ALL_OK` reads 0, and the cause names the lowest failing
check (60_exceptions.md R305). -/
def Obligations.ValidateFaultsExactlyWhenAllOkReadsZero : Prop :=
  ∀ s : State, s.mode = .idle → s.cfgOk = false →
    ∃ t, exec .validate s = .next t ∧
      (t.fault = true ↔ (s.readReg .vcheck).getLsbD 6 = false) ∧
      (t.fault = true → t.faultCause =
        if (s.readReg .vcheck).getLsbD 0 = false then .cfgFRange
        else if (s.readReg .vcheck).getLsbD 3 = false then .cfgFrac
        else if (s.readReg .vcheck).getLsbD 4 = false then .cfgVcoLow
        else .cfgVcoHigh)

/-- `VCHECK`, bit by bit, from the configuration registers and the selected pair at the moment of the read
(10_state.md R57, 40_frequency_validator.md R140 to R143). -/
def Obligations.VcheckBitsAreTheChecks : Prop :=
  ∀ s : State,
    let F := s.pllCtl.toNat % 8192
    let R := s.pllCtl.toNat / 65536 % 64
    let OD := s.pllCtl.toNat / 16777216 % 8
    let w := if s.cfgOk then s.fracOut.toNat else s.fracInit.toNat % 65536
    let f := w / 256
    let p := w % 256
    let v := s.inFreq.toNat * (F + 1)
    let c := s.readReg .vcheck
    c.getLsbD 0 = decide (1 ≤ F ∧ F ≤ 8191) ∧
    c.getLsbD 1 = decide (R ≤ 63) ∧ c.getLsbD 1 = true ∧
    c.getLsbD 2 = decide (OD ≤ 7) ∧ c.getLsbD 2 = true ∧
    c.getLsbD 3 = decide (f < p) ∧
    (f < p ↔ ((f + 1 : Nat) : Rat) / ((p + 1 : Nat) : Rat) < 1) ∧
    c.getLsbD 4 = decide (v ≥ 720000000 * (R + 1)) ∧
    c.getLsbD 5 = decide (v ≤ 3600000000 * (R + 1)) ∧
    c.getLsbD 6 =
      (c.getLsbD 0 && c.getLsbD 1 && c.getLsbD 2 && c.getLsbD 3 && c.getLsbD 4 && c.getLsbD 5) ∧
    c.toNat < 2 ^ 7

/-- The frequency outputs for legal parameters, as the host reads them: the exact unreduced fraction, its bounds, and
the two whole-hertz values, computed whatever the checks say (10_state.md R58 to R61; 40_frequency_validator.md
R144, R145). -/
def Obligations.FrequencyOutputsAreExact : Prop :=
  ∀ s : State, s.params.wf = true →
    let F := s.pllCtl.toNat % 8192
    let R := s.pllCtl.toNat / 65536 % 64
    let OD := s.pllCtl.toNat / 16777216 % 8
    let ACD := s.pllAcd.toNat % 2 ^ s.params.acdW
    let w := if s.cfgOk then s.fracOut.toNat else s.fracInit.toNat % 65536
    let f := w / 256
    let p := w % 256
    let num := s.inFreq.toNat * ((F + 1) * (p + 1) + (f + 1))
    let den := 4 * (p + 1) * (R + 1) * (OD + 1) * (ACD + 1)
    num < 2 ^ 54 ∧ 4 ≤ den ∧ den ≤ 2 ^ 31 ∧
    (s.readReg .freqNumHi).toNat * 2 ^ 32 + (s.readReg .freqNumLo).toNat = num ∧
    (s.readReg .freqDen).toNat = den ∧
    (s.readReg .freqHz).toNat = min (num / den) (2 ^ 32 - 1) ∧
    (s.readReg .vcoHz).toNat = min (s.inFreq.toNat * (F + 1) / (2 * (R + 1))) (2 ^ 32 - 1)

/-- For a fixed configuration with IN > 0 the output frequency of a pair is K·((F+1) + its fractional term) with K > 0,
so it is strictly increasing in that term, and comparing frequencies is comparing (f₁+1)(p₂+1) with (f₂+1)(p₁+1) (40_frequency_validator.md R147). -/
def Obligations.FrequencyIncreasesWithTheFractionalTerm : Prop :=
  ∀ (s : State) (w₁ w₂ : Half), 0 < s.inFreq.toNat →
    let freq := fun w => ((s.freqNumOf w : Nat) : Rat) / ((s.freqDenOf w : Nat) : Rat)
    let term := fun w => ((pairF w + 1 : Nat) : Rat) / ((pairP w + 1 : Nat) : Rat)
    let k : Rat := (s.inFreq.toNat : Rat) / ((4 * (s.fieldR + 1) * (s.fieldOD + 1) * (s.fieldACD + 1) : Nat) : Rat)
    0 < k ∧ freq w₁ = k * ((s.fieldF + 1 : Nat) + term w₁) ∧
    (freq w₁ < freq w₂ ↔ term w₁ < term w₂) ∧
    (freq w₁ ≤ freq w₂ ↔ (pairF w₁ + 1) * (pairP w₂ + 1) ≤ (pairF w₂ + 1) * (pairP w₁ + 1))

/-- While CFG_OK = 1, `VCHECK.ALL_OK` reads 1 in every state the invariant holds of (40_frequency_validator.md
R148). -/
def Obligations.ValidatedConfigurationStaysValid : Prop :=
  (∀ s : State, s.Inv → s.cfgOk = true → (s.readReg .vcheck).getLsbD 6 = true) ∧
  (∀ (p : Params) (s : State), p.wf = true → Reachable p s → s.cfgOk = true →
    (s.readReg .vcheck).getLsbD 6 = true)

/-! ### Faults, refusals, bus errors -/

/-- Fault entry is precise and only VALIDATE, BUILD and TICK raise one, each with its own causes
(60_exceptions.md R300, R301). -/
def Obligations.FaultEntryIsPrecise : Prop :=
  ∀ (i : Instr) (s t : State), exec i s = .next t → s.fault = false → t.fault = true →
    t = { s with fault := true, faultCause := t.faultCause, faultIndex := t.faultIndex } ∧
    t.faultO = true ∧
    ((i = .validate ∧ t.faultIndex = 0#16 ∧
        (t.faultCause = .cfgFRange ∨ t.faultCause = .cfgFrac ∨ t.faultCause = .cfgVcoLow ∨
          t.faultCause = .cfgVcoHigh)) ∨
     (i = .build ∧
        ((t.faultCause = .lutSize ∧ t.faultIndex = 0#16) ∨ t.faultCause = .lutHole ∨ t.faultCause = .lutFrac ∨
          t.faultCause = .lutNonmono)) ∨
     (i = .tick ∧ t.faultCause = .tickPfZero ∧ t.faultIndex = 0#16))

/-- In the fault state every run of host events without a reset leaves every register, the LUT and the output
signals as they were, reads answer as in any mode, bus errors are still raised, and reset leaves the fault state
(60_exceptions.md R302, R303, R311). -/
def Obligations.FaultStateHoldsUntilReset : Prop :=
  ∀ s : State, s.fault = true →
    (∀ (es : List HostEvent) (t : State), .reset ∉ es → s.runEvents es = .next t →
      t = { s with response := t.response } ∧ t.fracO = s.fracO ∧ t.lockO = s.lockO ∧ t.faultO = true) ∧
    (∀ r : Reg, s.perform (.read r.offset 4) = .next { s with response := .readOk (s.readReg r) }) ∧
    (∀ (r : Reg) (v : Word), s.eventGives (.write r.offset 4 v) s) ∧
    (∀ (a : Offset) (n : Nat) (v : Word), n ≠ 4 ∨ a.toNat % 4 ≠ 0 ∨ 0x98 < a.toNat →
      s.perform (.read a n) = .next { s with response := .readError 0#32 } ∧
      s.perform (.write a n v) = .next { s with response := .writeError }) ∧
    (∃ t, s.perform .reset = .next t ∧ t.fault = false ∧ t.faultCause = .none ∧ t.faultIndex = 0#16)

/-- A bus error is raised exactly by the accesses the rule names, in every mode; it changes no state of the block,
and a read that raises it gives data 0 (60_exceptions.md R308). That every other write, an ignored, refused or FAULTED
one among them, is answered without an error is the model's choice, DEDUCED from the rule's list (log 10); the spec says
it of writes to read-only registers only (20_memory.md R73). -/
def Obligations.BusErrorChangesNoState : Prop :=
  ∀ (s : State) (a : Offset) (n : Nat) (v : Word),
    (n ≠ 4 ∨ a.toNat % 4 ≠ 0 ∨ 0x98 < a.toNat →
      s.perform (.read a n) = .next { s with response := .readError 0#32 } ∧
      s.perform (.write a n v) = .next { s with response := .writeError }) ∧
    (n = 4 → a.toNat % 4 = 0 → a.toNat ≤ 0x98 →
      (∃ t d, s.perform (.read a n) = .next t ∧ t.response = .readOk d) ∧
      (∃ t, s.perform (.write a n v) = .next t ∧ t.response = .writeOk))

/-! ### Register window -/

/-- Each register is read at its offset of the map, aligned and 32 bits, with its value and reserved bits 0; the read
changes nothing (20_memory.md R72, R87). At the map's offset of each stored register, written out, the read gives the
piece of state of that name, with the bits its rule leaves reserved 0 (10_state.md section 2, R33 to R56, R65). -/
def Obligations.AlignedReadsReturnTheRegister : Prop :=
  (∀ (s : State) (k : Nat) (r : Reg), Reg.all[k]? = some r →
    r.offset.toNat = 4 * k ∧
    s.perform (.read (BitVec.ofNat 8 (4 * k)) 4) = .next { s with response := .readOk (s.readReg r) } ∧
    s.readReg r = s.regValue r &&& r.mask s.params) ∧
  ∀ s : State,
    let reads (a : Offset) (d : Word) := s.perform (.read a 4) = .next { s with response := .readOk d }
    let low (n : Nat) (w : Word) : Word := BitVec.ofNat 32 (w.toNat % 2 ^ n)
    (reads 0x10#8 s.inFreq ∧ reads 0x14#8 (s.pllCtl &&& 0x073F1FFF#32) ∧ reads 0x18#8 (low s.params.acdW s.pllAcd) ∧
      reads 0x1C#8 (low 16 s.fracInit)) ∧
    (reads 0x20#8 s.expInc ∧ reads 0x24#8 (low s.params.cntW s.initCount) ∧ reads 0x28#8 s.kp ∧ reads 0x2C#8 s.ki ∧
      reads 0x30#8 s.kii ∧ reads 0x34#8 (low (s.params.lutAW + 1) s.lutSize) ∧
      reads 0x38#8 (low s.params.lutAW s.lutAddr)) ∧
    (reads 0x40#8 (low s.params.cntW s.measCount) ∧ reads 0x44#8 s.periodFrac ∧ reads 0x48#8 s.resError) ∧
    (reads 0x4C#8 (s.fracOut.setWidth 32) ∧ reads 0x50#8 (low s.params.lutAW s.index) ∧ reads 0x54#8 s.setpoint ∧
      reads 0x58#8 s.totalErr ∧ reads 0x5C#8 (low s.params.cntW s.prevCount)) ∧
    (reads 0x60#8 (s.acc.extractLsb' 0 32) ∧ reads 0x64#8 (s.acc.extractLsb' 32 32) ∧
      reads 0x68#8 (s.acc2.extractLsb' 0 32) ∧ reads 0x6C#8 (s.acc2.extractLsb' 32 32) ∧
      reads 0x70#8 (s.limitI.extractLsb' 0 32) ∧ reads 0x74#8 (s.limitI.extractLsb' 32 32) ∧
      reads 0x78#8 (s.limitII.extractLsb' 0 32) ∧ reads 0x7C#8 (s.limitII.extractLsb' 32 32))

/-- A write to a read-only register completes with no effect, and a read of `CMD` returns 0 with no effect
(20_memory.md R73). -/
def Obligations.ReadOnlyWritesHaveNoEffect : Prop :=
  (∀ (s : State) (r : Reg) (v : Word),
    r ∈ [Reg.id, .status, .faultInfo, .fracOut, .index, .setpoint, .totalErr, .prevCount, .accLo, .accHi, .acc2Lo,
      .acc2Hi, .limitILo, .limitIHi, .limitIILo, .limitIIHi, .freqNumLo, .freqNumHi, .vcheck, .freqDen, .freqHz,
      .vcoHz, .params] →
    s.perform (.write r.offset 4 v) = .next { s with response := .writeOk }) ∧
  (∀ s : State, s.perform (.read Reg.cmd.offset 4) = .next { s with response := .readOk 0#32 })

/-- The bits each writable register stores (10_state.md R33 to R47). -/
def Obligations.StoredBitsOfEachRegister : Prop :=
  ∀ (p : Params) (v : Word),
    (v &&& Reg.mask p .inFreq = v ∧ v &&& Reg.mask p .expInc = v ∧ v &&& Reg.mask p .kp = v ∧
      v &&& Reg.mask p .ki = v ∧ v &&& Reg.mask p .kii = v ∧ v &&& Reg.mask p .periodFrac = v ∧
      v &&& Reg.mask p .resError = v) ∧
    Reg.mask p .pllCtl = 0x073F1FFF#32 ∧
    (v &&& Reg.mask p .pllAcd).toNat = v.toNat % 2 ^ p.acdW ∧
    (v &&& Reg.mask p .fracInit).toNat = v.toNat % 2 ^ 16 ∧
    (v &&& Reg.mask p .initCount).toNat = v.toNat % 2 ^ p.cntW ∧
    (v &&& Reg.mask p .measCount).toNat = v.toNat % 2 ^ p.cntW ∧
    (v &&& Reg.mask p .lutSize).toNat = v.toNat % 2 ^ (p.lutAW + 1) ∧
    (v &&& Reg.mask p .lutAddr).toNat = v.toNat % 2 ^ p.lutAW

/-- A host write to a plain register while the block has not faulted: by its lock class it stores the masked value,
which then reads back, and no other stored register, flag or LUT byte changes; or it is ignored and sets WR_IGN alone
(10_state.md R64, R65; 20_memory.md R86). -/
def Obligations.RegisterWritesObeyTheLockClass : Prop :=
  ∀ (s : State) (r : Reg) (v : Word), s.fault = false →
    let classC := r ∈ [Reg.inFreq, .pllCtl, .pllAcd, .fracInit]
    let classL := r ∈ [Reg.kp, .ki, .kii, .lutSize]
    let classS := r ∈ [Reg.expInc, .initCount]
    let classO := r ∈ [Reg.lutAddr, .measCount, .periodFrac, .resError]
    ((classC ∧ s.cfgOk = false ∨ classL ∧ s.ready = false ∨ classS ∧ s.run = false ∨ classO) →
      ∃ t, s.perform (.write r.offset 4 v) = .next t ∧
        t.readReg r = v &&& r.mask s.params ∧
        (∀ r', r' ≠ r → r' ∉ [Reg.lutData, .vcheck, .freqNumLo, .freqNumHi, .freqDen, .freqHz, .vcoHz] →
          t.readReg r' = s.readReg r') ∧
        (∀ a, t.lut.read a = s.lut.read a) ∧ t.params = s.params ∧ t.pending = s.pending) ∧
    ((classC ∧ s.cfgOk = true ∨ (classL ∨ r = .lutData) ∧ s.ready = true ∨ classS ∧ s.run = true) →
      s.eventGives (.write r.offset 4 v) { s with wrIgn := true })

/-- Repeating a write to any register but `CMD` and `LUT_DATA` changes nothing more (20_memory.md R83). -/
def Obligations.RepeatedRegisterWriteIsIdempotent : Prop :=
  ∀ (s t : State) (r : Reg) (v : Word), r ≠ .cmd → r ≠ .lutData →
    s.perform (.write r.offset 4 v) = .next t → t.perform (.write r.offset 4 v) = .next t

/-- Reads have no side effect, and any run of reads leaves every later read as it was (20_memory.md R82). -/
def Obligations.ReadsHaveNoSideEffect : Prop :=
  (∀ (s : State) (a : Offset) (n : Nat), s.perform (.read a n) = .next { s with response := s.memRead a n }) ∧
  (∀ (es : List HostEvent) (s t : State), (∀ e ∈ es, isRead e = true) → s.runEvents es = .next t →
    t = { s with response := t.response } ∧ ∀ a n, t.memRead a n = s.memRead a n)

/-- With no `CMD` write and no reset between the reads of its halves, a 64-bit quantity reads as one value
(20_memory.md R81). -/
def Obligations.HalvesReadWithoutCommandAreConsistent : Prop :=
  ∀ (es : List HostEvent) (s t : State), (∀ e ∈ es, writesReg .cmd e = false ∧ e ≠ .reset) →
    s.runEvents es = .next t →
    (t.readReg .accHi ++ s.readReg .accLo : BitVec 64) = s.acc ∧ t.acc = s.acc ∧
    (t.readReg .acc2Hi ++ s.readReg .acc2Lo : BitVec 64) = s.acc2 ∧ t.acc2 = s.acc2 ∧
    (t.readReg .limitIHi ++ s.readReg .limitILo : BitVec 64) = s.limitI ∧ t.limitI = s.limitI ∧
    (t.readReg .limitIIHi ++ s.readReg .limitIILo : BitVec 64) = s.limitII ∧ t.limitII = s.limitII ∧
    ((∀ e ∈ es, writesClassC e = false) →
      (t.readReg .freqNumHi ++ s.readReg .freqNumLo : BitVec 64) = s.freqNum ∧ t.freqNum = s.freqNum)

/-! ### The LUT port -/

/-- A read of `LUT_DATA` (20_memory.md R76), in every mode. -/
def Obligations.LutDataReadsTheWordAtThePointer : Prop :=
  ∀ s : State,
    (∀ w, s.lut.word? (s.lutAddr.toNat % 2 ^ s.params.lutAW) = some w →
      s.perform (.read 0x3C#8 4) = .next { s with response := .readOk (w.setWidth 32) }) ∧
    (s.lut.word? (s.lutAddr.toNat % 2 ^ s.params.lutAW) = none →
      s.perform (.read 0x3C#8 4) = .next { s with response := .readOk 0#32 })

/-- A write of `LUT_DATA` (20_memory.md R77): the word at the pointer and its written bit, the pointer advanced modulo
`LUT_MAX`, every other byte of the LUT and every other field kept; ignored with WR_IGN while READY = 1. The parameters
are legal. -/
def Obligations.LutDataWritesTheWordAndAdvances : Prop :=
  ∀ (s : State) (v : Word), s.params.wf = true → s.fault = false →
    let i := s.lutAddr.toNat % 2 ^ s.params.lutAW
    (s.ready = false →
      ∃ t, s.perform (.write 0x3C#8 4 v) = .next t ∧
        t.lut.word? i = some (v.setWidth 16) ∧
        t.lutAddr.toNat = (i + 1) % 2 ^ s.params.lutAW ∧
        (∀ j, j ≠ i → t.lut.word? j = s.lut.word? j) ∧
        (∀ a, a ≠ lutByte i → a ≠ lutByte i + 1 → t.lut.read a = s.lut.read a) ∧
        t = { s with lut := t.lut, lutAddr := t.lutAddr, response := t.response }) ∧
    (s.ready = true → s.eventGives (.write 0x3C#8 4 v) { s with wrIgn := true })

/-- A write of `LUT_ADDR` stores v[LUT_AW−1:0] in any mode but FAULTED, and an index is always below `LUT_MAX`
(20_memory.md R78). -/
def Obligations.LutAddrStoresTheLowBits : Prop :=
  (∀ (s : State) (v : Word), s.fault = false →
    ∃ t, s.perform (.write 0x38#8 4 v) = .next t ∧ t.lutAddr.toNat = v.toNat % 2 ^ s.params.lutAW ∧
      t = { s with lutAddr := t.lutAddr, response := t.response }) ∧
  (∀ s : State, s.lutPointer < 2 ^ s.params.lutAW)

/-- Loading: after writing `LUT_ADDR` with a first index and `LUT_DATA` with each word in order, while READY = 0, the
words stand at consecutive indices, every other word is kept, and the pointer has advanced past them
(20_memory.md R77, 30_encoding.md R116). -/
def Obligations.LoadLutFillsConsecutiveEntries : Prop :=
  ∀ (s : State) (first : Nat) (ws : List Half), s.params.wf = true → s.fault = false → s.ready = false →
    first + ws.length ≤ 2 ^ s.params.lutAW → ws ≠ [] →
    ∃ t, s.runEvents (Line.loadLut first (ws.map fun w => (w.toNat : Int))).events = .next t ∧
      (∀ k w, ws[k]? = some w → t.lut.word? (first + k) = some w) ∧
      (∀ j, j < first ∨ first + ws.length ≤ j → t.lut.word? j = s.lut.word? j) ∧
      t.lutAddr.toNat = (first + ws.length) % 2 ^ s.params.lutAW ∧
      t = { s with lut := t.lut, lutAddr := t.lutAddr, response := t.response }

/-- The pseudo-instructions' exact expansions (30_encoding.md R116). An operand is any integer, stored as 32-bit two's
complement (R115); that one outside 32 bits is taken modulo 2^32 is the model's choice, DESIGN CHOICE (log 13). -/
def Obligations.PseudoInstructionsExpandExactly : Prop :=
  Line.nop.events = [.write 0x04#8 4 0#32] ∧ Line.validate.events = [.write 0x04#8 4 1#32] ∧
  Line.build.events = [.write 0x04#8 4 2#32] ∧ Line.init.events = [.write 0x04#8 4 3#32] ∧
  Line.clear.events = [.write 0x04#8 4 6#32] ∧
  (∀ c : Int, (Line.tick c).events = [.write 0x40#8 4 (BitVec.ofInt 32 c), .write 0x04#8 4 4#32]) ∧
  (∀ c pf : Int, (Line.tickWith c pf).events =
    [.write 0x40#8 4 (BitVec.ofInt 32 c), .write 0x44#8 4 (BitVec.ofInt 32 pf), .write 0x04#8 4 4#32]) ∧
  (∀ e : Int, (Line.resolve e).events = [.write 0x48#8 4 (BitVec.ofInt 32 e), .write 0x04#8 4 5#32]) ∧
  (∀ (a : Int) (ws : List Int), (Line.loadLut a ws).events =
    .write 0x38#8 4 (BitVec.ofInt 32 a) :: ws.map fun w => .write 0x3C#8 4 (BitVec.ofInt 32 w)) ∧
  (Line.rd64 .acc).events = [.read 0x60#8 4, .read 0x64#8 4] ∧
  (Line.rd64 .acc2).events = [.read 0x68#8 4, .read 0x6C#8 4] ∧
  (Line.rd64 .limitI).events = [.read 0x70#8 4, .read 0x74#8 4] ∧
  (Line.rd64 .limitII).events = [.read 0x78#8 4, .read 0x7C#8 4] ∧
  (Line.rd64 .freqNum).events = [.read 0x84#8 4, .read 0x88#8 4]

/-! ### BUILD -/

/-- BUILD in CONFIGURED passes exactly on a table of legal size whose every entry is good, and then writes the two
limits and READY and nothing else (41_lut.md R172 to R175); out of CONFIGURED it is refused. -/
def Obligations.BuildPassesExactlyOnGoodTables : Prop :=
  ∀ s : State, s.fault = false →
    (s.cfgOk = false ∨ s.ready = true → exec .build s = .next { s with cmdErr := true }) ∧
    (s.cfgOk = true → s.ready = false →
      let n := s.lutSize.toNat % 2 ^ (s.params.lutAW + 1)
      let limit := fun K : Nat => if K = 0 then 0 else n * 2 ^ 48 / K
      ((1 ≤ n ∧ n ≤ 2 ^ s.params.lutAW ∧ ∀ i, i < n → s.goodEntry i) →
        exec .build s = .next
          { s with
            limitI := BitVec.ofNat 64 (limit s.ki.toNat)
            limitII := BitVec.ofNat 64 (limit s.kii.toNat)
            ready := true }) ∧
      (¬(1 ≤ n ∧ n ≤ 2 ^ s.params.lutAW ∧ ∀ i, i < n → s.goodEntry i) →
        ∃ c i, exec .build s = .next { s with fault := true, faultCause := c, faultIndex := i }))

/-- BUILD reports the size first, then the lowest failing entry and at it hole, fraction, monotonicity in that order
(41_lut.md R172, R173). -/
def Obligations.BuildReportsTheFirstFailingCheck : Prop :=
  ∀ s : State, s.fault = false → s.cfgOk = true → s.ready = false →
    let n := s.lutSize.toNat % 2 ^ (s.params.lutAW + 1)
    let raised := fun (c : FaultCause) (i : Nat) =>
      exec .build s = .next { s with fault := true, faultCause := c, faultIndex := BitVec.ofNat 16 i }
    (n < 1 ∨ 2 ^ s.params.lutAW < n → raised .lutSize 0) ∧
    (∀ i, 1 ≤ n → n ≤ 2 ^ s.params.lutAW → i < n → (∀ j, j < i → s.goodEntry j) →
      (s.lut.word? i = none → raised .lutHole i) ∧
      (∀ w, s.lut.word? i = some w →
        (¬pairF w < pairP w → raised .lutFrac i) ∧
        (∀ v, pairF w < pairP w → 1 ≤ i → s.lut.word? (i - 1) = some v →
          (pairF v + 1) * (pairP w + 1) > (pairF w + 1) * (pairP v + 1) → raised .lutNonmono i)))

/-- The windup limits a passing BUILD stores, with legal parameters: the rounded-down quotient, 0 for gain 0, at most
2^63, and exact when K divides n·2^48 (41_lut.md R175). -/
def Obligations.WindupLimitsFitAndRoundDown : Prop :=
  ∀ s t : State, s.params.wf = true → s.fault = false → s.cfgOk = true → s.ready = false →
    exec .build s = .next t → t.ready = true →
    let n := s.lutSize.toNat % 2 ^ (s.params.lutAW + 1)
    (∀ (K : Nat) (L : Wide), (K = s.ki.toNat ∧ L = t.limitI ∨ K = s.kii.toNat ∧ L = t.limitII) →
      (K = 0 → L.toNat = 0) ∧
      (0 < K → L.toNat = n * 2 ^ 48 / K ∧ L.toNat * K ≤ n * 2 ^ 48 ∧ n * 2 ^ 48 < (L.toNat + 1) * K) ∧
      (0 < K → K ∣ n * 2 ^ 48 → L.toNat * K = n * 2 ^ 48) ∧
      L.toNat ≤ 2 ^ 63)

/-- Once READY = 1, until CLEAR or reset, the table, its size, the gains and the limits cannot change, and the limits
agree with the gains and the size (41_lut.md R176). -/
def Obligations.TableIsFrozenWhileReady : Prop :=
  ∀ (es : List HostEvent) (s t : State), s.Inv → s.ready = true →
    (∀ e ∈ es, e ≠ .reset ∧ e ≠ commandOf .clear) → s.runEvents es = .next t →
    t.ready = true ∧ t.lut = s.lut ∧ t.lutSize = s.lutSize ∧ t.kp = s.kp ∧ t.ki = s.ki ∧ t.kii = s.kii ∧
    t.limitI = s.limitI ∧ t.limitII = s.limitII ∧
    t.limitI.toNat = windupLimit t.tableSize t.ki.toNat ∧
    t.limitII.toNat = windupLimit t.tableSize t.kii.toNat

/-- After a passing BUILD every entry of the table is written and increasing index means non-decreasing output
frequency, over the whole table (41_lut.md R177). -/
def Obligations.BuiltTableIsMonotonic : Prop :=
  ∀ (s t : State), s.fault = false → s.cfgOk = true → s.ready = false →
    exec .build s = .next t → t.ready = true →
    ∀ i j, i ≤ j → j < t.tableSize →
      ∃ v w, t.lut.word? i = some v ∧ t.lut.word? j = some w ∧
        ((t.freqNumOf v : Nat) : Rat) / ((t.freqDenOf v : Nat) : Rat) ≤
          ((t.freqNumOf w : Nat) : Rat) / ((t.freqDenOf w : Nat) : Rat)

/-! ### RESOLVE -/

/-- RESOLVE's next state (42_mapper.md R200, R201), in a state the invariant holds of: the clamped index, its word as
the active pair, the lock status, the saturated copies; nothing else. With READY = 0 it is refused. -/
def Obligations.ResolveSelectsTheClampedEntry : Prop :=
  ∀ s : State, s.fault = false →
    (s.ready = false → exec .resolve s = .next { s with cmdErr := true }) ∧
    (s.ready = true → s.Inv →
      let n : Nat := s.lutSize.toNat % 2 ^ (s.params.lutAW + 1)
      let sp : Int := (n / 2 : Nat) - s.resError.toInt
      let idx : Nat := if sp < 0 then 0 else if sp ≥ n then n - 1 else sp.toNat
      ∃ w, s.lut.word? idx = some w ∧
        exec .resolve s = .next
          { s with
            fracOut := w
            index := BitVec.ofNat 32 idx
            lock := if sp < 0 then .unlockedLow else if sp ≥ n then .unlockedHigh else .locked
            setpoint := BitVec.ofInt 32 (min (max sp (-2147483648)) 2147483647)
            totalErr := s.resError })

/-- A larger error selects a smaller or equal index and a lower or equal frequency (42_mapper.md R202). -/
def Obligations.LargerErrorLowersTheFrequency : Prop :=
  ∀ (s : State) (err₁ err₂ : Int), s.Inv → s.ready = true → err₁ ≤ err₂ →
    (s.resolve err₂).index.toNat ≤ (s.resolve err₁).index.toNat ∧
    ((s.freqNumOf (s.resolve err₂).fracOut : Nat) : Rat) / ((s.freqDenOf (s.resolve err₂).fracOut : Nat) : Rat) ≤
      ((s.freqNumOf (s.resolve err₁).fracOut : Nat) : Rat) / ((s.freqDenOf (s.resolve err₁).fracOut : Nat) : Rat)

/-- Error 0 selects the midpoint floor(n/2), LOCKED (42_mapper.md R203); a set point outside the table gives the
boundary entry and UNLOCKED_LOW or UNLOCKED_HIGH, and LOCKED is exactly the set points 0 to n − 1 (R204). -/
def Obligations.MidpointAndBoundariesOfTheMapper : Prop :=
  ∀ s : State, s.Inv → s.ready = true →
    let n := s.lutSize.toNat % 2 ^ (s.params.lutAW + 1)
    ((s.resolve 0).index.toNat = n / 2 ∧ (s.resolve 0).lock = .locked ∧
      s.lut.word? (n / 2) = some (s.resolve 0).fracOut) ∧
    (∀ err : Int,
      ((n / 2 : Nat) - err < 0 →
        (s.resolve err).lock = .unlockedLow ∧ s.lut.word? 0 = some (s.resolve err).fracOut) ∧
      ((n / 2 : Nat) - err ≥ n →
        (s.resolve err).lock = .unlockedHigh ∧ s.lut.word? (n - 1) = some (s.resolve err).fracOut) ∧
      ((s.resolve err).lock = .locked ↔ 0 ≤ (n / 2 : Nat) - err ∧ (n / 2 : Nat) - err < n))

/-! ### INIT and TICK -/

/-- INIT's next state (43_controller.md R220): the fields it writes, every other kept, also when RUN = 1 already;
refused when READY = 0. -/
def Obligations.InitRestartsTheController : Prop :=
  ∀ s : State, s.fault = false →
    (s.ready = false → exec .init s = .next { s with cmdErr := true }) ∧
    (s.ready = true →
      exec .init s = .next
        { s with
          acc := 0#64, acc2 := 0#64, accSat := false, acc2Sat := false
          prevCount := BitVec.ofNat 32 (s.initCount.toNat % 2 ^ s.params.cntW)
          fracOut := s.fracInit.setWidth 16
          index := 0#32, setpoint := 0#32, totalErr := 0#32
          lock := .none
          run := true })

/-- TICK's next state (43_controller.md R221 to R229), in a state the invariant holds of with RUN = 1 and
`PERIOD_FRAC` ≠ 0: every value it writes, computed exactly from the registers, and every other field kept. -/
def Obligations.TickPerformsOneControlStep : Prop :=
  ∀ s : State, s.Inv → s.fault = false → s.run = true → s.periodFrac ≠ 0#32 →
    let m : Int := 2 ^ s.params.cntW
    let diff : Int := ((s.measCount.toNat : Int) - s.prevCount.toNat) % m
    let e : Int := diff * 2 ^ 32 / s.periodFrac.toNat - s.expInc.toNat * 2 ^ 16
    let sat := fun v : Int => min (max v (-(2 ^ 63))) (2 ^ 63 - 1)
    let a1 : Int := s.acc.toInt + e
    let a2 : Int := s.acc2.toInt + sat a1
    let bound := fun (v : Int) (l : Wide) => min (max v (-(l.toNat : Int))) l.toNat
    let total : Int :=
      Int.tdiv (s.kp.toNat * e + bound (s.ki.toNat * sat a1) s.limitI + bound (s.kii.toNat * sat a2) s.limitII)
        (2 ^ 32)
    let n : Nat := s.lutSize.toNat % 2 ^ (s.params.lutAW + 1)
    let sp : Int := (n / 2 : Nat) - total
    let idx : Nat := if sp < 0 then 0 else if sp ≥ n then n - 1 else sp.toNat
    ∃ t, exec .tick s = .next t ∧
      t.prevCount = s.measCount ∧
      t.acc.toInt = sat a1 ∧ t.accSat = (s.accSat || decide (sat a1 ≠ a1)) ∧
      t.acc2.toInt = sat a2 ∧ t.acc2Sat = (s.acc2Sat || decide (sat a2 ≠ a2)) ∧
      s.lut.word? idx = some t.fracOut ∧ t.index.toNat = idx ∧
      t.lock = (if sp < 0 then .unlockedLow else if sp ≥ n then .unlockedHigh else .locked) ∧
      t.setpoint.toInt = min (max sp (-2147483648)) 2147483647 ∧
      t.totalErr.toInt = min (max total (-2147483648)) 2147483647 ∧
      t.periodFrac = 0x00010000#32 ∧
      t = { s with
            prevCount := t.prevCount, acc := t.acc, accSat := t.accSat, acc2 := t.acc2, acc2Sat := t.acc2Sat
            fracOut := t.fracOut, index := t.index, lock := t.lock, setpoint := t.setpoint, totalErr := t.totalErr
            periodFrac := t.periodFrac }

/-- TICK with `PERIOD_FRAC` = 0 raises `TICK_PF_ZERO` before any state is written; that is its only fault; with
RUN = 0 it is refused (43_controller.md R221, R222, R231). -/
def Obligations.TickFaultsOnlyOnZeroPeriod : Prop :=
  ∀ s : State, s.fault = false →
    (s.run = false → exec .tick s = .next { s with cmdErr := true }) ∧
    (s.run = true → s.periodFrac = 0#32 →
      exec .tick s = .next { s with fault := true, faultCause := .tickPfZero, faultIndex := 0#16 }) ∧
    (s.run = true → s.periodFrac ≠ 0#32 →
      ∃ t, exec .tick s = .next t ∧ t.fault = false ∧
        (t.lock = .locked ∨ t.lock = .unlockedLow ∨ t.lock = .unlockedHigh))

/-- A completed TICK ends by reloading `PERIOD_FRAC` with 1.0; a refused or faulted one leaves it
(43_controller.md R228). -/
def Obligations.CompletedTickReloadsPeriodFraction : Prop :=
  ∀ s : State, s.fault = false →
    ∃ t, exec .tick s = .next t ∧
      (s.run = true ∧ s.periodFrac ≠ 0#32 → t.periodFrac = 0x00010000#32) ∧
      (s.run = false ∨ s.periodFrac = 0#32 → t.periodFrac = s.periodFrac)

/-- The count difference is the true number of counts `k` whenever that is below 2^CNT_W, whether or not the counter
wrapped; a larger one cannot be told from its remainder (43_controller.md R232). -/
def Obligations.CountDifferenceSurvivesWrap : Prop :=
  ∀ (s : State) (k : Nat),
    s.measCount.toNat % 2 ^ s.params.cntW = (s.prevCount.toNat + k) % 2 ^ s.params.cntW →
      s.countDiff = (k % 2 ^ s.params.cntW : Nat) ∧ (k < 2 ^ s.params.cntW → s.countDiff = k)

/-- The datapath sizes, for legal parameters, a nonzero `PERIOD_FRAC` and limits of at most 2^63 (which every passing
BUILD gives) (43_controller.md R233). -/
def Obligations.DatapathSizesHoldEveryIntermediate : Prop :=
  ∀ s : State, s.params.wf = true → s.periodFrac ≠ 0#32 → s.limitI.toNat ≤ 2 ^ 63 → s.limitII.toNat ≤ 2 ^ 63 →
    (0 ≤ s.countDiff ∧ s.countDiff < 2 ^ 32) ∧
    (s.countIncrement ≤ s.countDiff * 2 ^ 32 ∧ s.countDiff * 2 ^ 32 < 2 ^ 64) ∧
    |s.rawError| < 2 ^ 64 ∧ |s.termP| < 2 ^ 96 ∧
    |gainRaw s.ki * accRaw s.nextAcc| < 2 ^ 95 ∧ |gainRaw s.kii * accRaw s.nextAcc2| < 2 ^ 95 ∧
    |s.termI| ≤ 2 ^ 63 ∧ |s.termII| ≤ 2 ^ 63 ∧
    |s.termP + s.termI + s.termII| < 2 ^ 97 ∧ |s.totalError| < 2 ^ 65

/-- Anti-windup: the integral terms never pass their limits and take exactly the limit once the products do; under a
sustained constant error, positive or negative, the integral term comes to stand at exactly the limit of its sign and
stays, while no command but TICK runs (43_controller.md R230; the corner KI = 1 with the largest table, which does not
reach the positive limit, is excluded by the premise that the largest accumulator reaches it). -/
def Obligations.SustainedErrorSaturatesTheIntegralTerm : Prop :=
  (∀ s : State,
    |s.termI| ≤ s.limitI.toNat ∧ |s.termII| ≤ s.limitII.toNat ∧
    ((s.limitI.toNat : Int) ≤ s.ki.toNat * s.nextAcc.toInt → s.termI = s.limitI.toNat) ∧
    ((s.ki.toNat : Int) * s.nextAcc.toInt ≤ -s.limitI.toNat → s.termI = -s.limitI.toNat) ∧
    ((s.limitII.toNat : Int) ≤ s.kii.toNat * s.nextAcc2.toInt → s.termII = s.limitII.toNat) ∧
    ((s.kii.toNat : Int) * s.nextAcc2.toInt ≤ -s.limitII.toNat → s.termII = -s.limitII.toNat)) ∧
  (∀ (s : State) (d : Nat), s.Inv → s.fault = false → s.run = true → s.periodFrac = 0x00010000#32 →
    d ≠ s.expInc.toNat → d < 2 ^ s.params.cntW → 0 < s.ki.toNat →
    (s.expInc.toNat < d → (s.limitI.toNat : Int) ≤ s.ki.toNat * (2 ^ 63 - 1)) →
    ∃ N, ∀ k, N ≤ k → ∃ t, s.runEvents (tickTrain s.params.cntW s.prevCount.toNat d k) = .next t ∧
      t.limitI = s.limitI ∧
      clamp (t.ki.toNat * t.acc.toInt) (-t.limitI.toNat) t.limitI.toNat =
        if s.expInc.toNat < d then (t.limitI.toNat : Int) else -t.limitI.toNat)

/-! ### Frames, sticky flags and outputs -/

/-- What each command leaves unchanged, on every path: every host-written register (`PERIOD_FRAC` but for TICK), every
byte of the LUT, the parameters; the accumulators and their flags but for INIT and TICK; the limits but for BUILD; the
active pair but for VALIDATE, INIT, TICK, RESOLVE; the mapper's results but for INIT, TICK, RESOLVE, CLEAR; FAULT_INFO
but for VALIDATE, BUILD, TICK; WR_IGN but for CLEAR. -/
def Obligations.CommandsKeepWhatTheyDoNotWrite : Prop :=
  ∀ (i : Instr) (s t : State), exec i s = .next t →
    (∀ r ∈ [Reg.inFreq, .pllCtl, .pllAcd, .fracInit, .expInc, .initCount, .kp, .ki, .kii, .lutSize, .lutAddr,
      .lutData, .measCount, .resError, .id, .params], t.readReg r = s.readReg r) ∧
    (i ≠ .tick → t.periodFrac = s.periodFrac) ∧
    (∀ a, t.lut.read a = s.lut.read a) ∧
    t.params = s.params ∧ t.pending = s.pending ∧ t.response = s.response ∧
    (i ≠ .init → i ≠ .tick →
      t.acc = s.acc ∧ t.acc2 = s.acc2 ∧ t.prevCount = s.prevCount ∧ t.accSat = s.accSat ∧ t.acc2Sat = s.acc2Sat) ∧
    (i ≠ .build → t.limitI = s.limitI ∧ t.limitII = s.limitII) ∧
    (i ≠ .validate → i ≠ .init → i ≠ .tick → i ≠ .resolve → t.fracOut = s.fracOut) ∧
    (i ≠ .init → i ≠ .tick → i ≠ .resolve → i ≠ .clear →
      t.index = s.index ∧ t.setpoint = s.setpoint ∧ t.totalErr = s.totalErr ∧ t.lock = s.lock) ∧
    (i ≠ .validate → i ≠ .build → i ≠ .tick →
      t.fault = s.fault ∧ t.faultCause = s.faultCause ∧ t.faultIndex = s.faultIndex) ∧
    (i ≠ .validate → i ≠ .clear → t.cfgOk = s.cfgOk) ∧
    (i ≠ .build → i ≠ .clear → t.ready = s.ready) ∧
    (i ≠ .init → i ≠ .clear → t.run = s.run) ∧
    (i ≠ .clear → t.wrIgn = s.wrIgn)

/-- ACC_SAT and ACC2_SAT: TICK sets each when its exact sum does not fit 64 signed bits, and no event but a TICK that
completes sets one (not a TICK refused by the mode, faulting on PERIOD_FRAC = 0, or written in FAULTED); nothing but
INIT and reset clears them (10_state.md R29). -/
def Obligations.SaturationFlagsAreSticky : Prop :=
  ∀ (s t : State) (e : HostEvent), s.perform e = .next t →
    (e = commandOf .tick → s.fault = false → s.run = true → s.periodFrac ≠ 0#32 →
      (t.accSat = true ↔ s.accSat = true ∨ s.accSum < -(2 ^ 63) ∨ 2 ^ 63 ≤ s.accSum) ∧
      (t.acc2Sat = true ↔ s.acc2Sat = true ∨ s.acc2Sum < -(2 ^ 63) ∨ 2 ^ 63 ≤ s.acc2Sum)) ∧
    (¬(e = commandOf .tick ∧ s.fault = false ∧ s.run = true ∧ s.periodFrac ≠ 0#32) →
      (s.accSat = false → t.accSat = false) ∧ (s.acc2Sat = false → t.acc2Sat = false)) ∧
    ((s.accSat = true ∧ t.accSat = false ∨ s.acc2Sat = true ∧ t.acc2Sat = false) →
      e = .reset ∨ e = commandOf .init) ∧
    ((e = .reset ∨ e = commandOf .init ∧ s.fault = false ∧ s.ready = true) → t.accSat = false ∧ t.acc2Sat = false)

/-- CMD_ERR: set exactly when a command word is refused, by its bits or by the mode; cleared exactly by CLEAR and
reset (10_state.md R30). -/
def Obligations.CommandErrorFlagIsSticky : Prop :=
  ∀ (s t : State) (e : HostEvent), s.modesOrdered → s.perform e = .next t →
    (s.cmdErr = false →
      (t.cmdErr = true ↔ s.fault = false ∧ ∃ v : Word, e = .write 0x04#8 4 v ∧
        ((∃ d, decode v = .error d) ∨ ∃ i : Instr, decode v = .ok i ∧ i.runsIn s.mode = false))) ∧
    (s.cmdErr = true → (t.cmdErr = false ↔ e = .reset ∨ e = commandOf .clear ∧ s.fault = false))

/-- WR_IGN: set exactly when a write to a register of class C, L or S is ignored because its class is locked, never
while FAULT = 1; cleared exactly by CLEAR and reset (10_state.md R31). -/
def Obligations.WriteIgnoredFlagIsSticky : Prop :=
  ∀ (s t : State) (e : HostEvent), s.perform e = .next t →
    (s.wrIgn = false →
      (t.wrIgn = true ↔ s.fault = false ∧ ∃ (r : Reg) (v : Word), e = .write r.offset 4 v ∧
        (r ∈ [Reg.inFreq, .pllCtl, .pllAcd, .fracInit] ∧ s.cfgOk = true ∨
         r ∈ [Reg.kp, .ki, .kii, .lutSize, .lutData] ∧ s.ready = true ∨
         r ∈ [Reg.expInc, .initCount] ∧ s.run = true))) ∧
    (s.wrIgn = true → (t.wrIgn = false ↔ e = .reset ∨ e = commandOf .clear ∧ s.fault = false))

/-- The output signals are the active pair, `STATUS.LOCK` and `STATUS.FAULT` as the host reads them, and `frac_o`
changes only at VALIDATE, INIT, TICK and RESOLVE and at reset (00_scope.md R14, 70_reset_and_hazards.md R352). -/
def Obligations.OutputSignalsFollowTheState : Prop :=
  (∀ s : State,
    s.readReg .fracOut = s.fracO.setWidth 32 ∧ s.lockO = (s.readReg .status).extractLsb' 4 2 ∧
    s.faultO = (s.readReg .status).getLsbD 3) ∧
  (∀ (s t : State) (e : HostEvent), s.perform e = .next t → t.fracO ≠ s.fracO →
    e = .reset ∨
      (s.fault = false ∧
        (e = commandOf .validate ∧ s.cfgOk = false ∧ t.cfgOk = true ∨ e = commandOf .init ∧ s.ready = true ∨
          e = commandOf .tick ∧ s.run = true ∨ e = commandOf .resolve ∧ s.ready = true)))

/-- `STATUS` and `FAULT_INFO`, bit by bit (10_state.md R23, R32). -/
def Obligations.StatusAndFaultInfoLayout : Prop :=
  ∀ s : State,
    let w := s.readReg .status
    let i := s.readReg .faultInfo
    w.getLsbD 0 = s.cfgOk ∧ w.getLsbD 1 = s.ready ∧ w.getLsbD 2 = s.run ∧ w.getLsbD 3 = s.fault ∧
    w.extractLsb' 4 2 = s.lock.code ∧ w.getLsbD 6 = s.accSat ∧ w.getLsbD 7 = s.acc2Sat ∧
    w.getLsbD 8 = s.cmdErr ∧ w.getLsbD 9 = s.wrIgn ∧ w.extractLsb' 10 22 = 0#22 ∧
    i.extractLsb' 0 8 = s.faultCause.code ∧ i.extractLsb' 8 8 = 0#8 ∧ i.extractLsb' 16 16 = s.faultIndex

/-- The codes of the lock status, also as signed numbers, and of the fault causes (30_encoding.md R108, R109). -/
def Obligations.LockAndCauseCodes : Prop :=
  LockStatus.code .locked = 0b00#2 ∧ (LockStatus.code .locked).toInt = 0 ∧
  LockStatus.code .unlockedHigh = 0b01#2 ∧ (LockStatus.code .unlockedHigh).toInt = 1 ∧
  LockStatus.code .unlockedLow = 0b11#2 ∧ (LockStatus.code .unlockedLow).toInt = -1 ∧
  LockStatus.code .none = 0b10#2 ∧ (LockStatus.code .none).toInt = -2 ∧
  FaultCause.code .none = 0x00#8 ∧ FaultCause.code .cfgFRange = 0x01#8 ∧ FaultCause.code .cfgFrac = 0x02#8 ∧
  FaultCause.code .cfgVcoLow = 0x03#8 ∧ FaultCause.code .cfgVcoHigh = 0x04#8 ∧ FaultCause.code .lutSize = 0x05#8 ∧
  FaultCause.code .lutHole = 0x06#8 ∧ FaultCause.code .lutFrac = 0x07#8 ∧ FaultCause.code .lutNonmono = 0x08#8 ∧
  FaultCause.code .tickPfZero = 0x09#8

/-- The LUT word: f in bits [15:8], p in bits [7:0]; decoding and encoding are exact inverses, and `FRAC_INIT` and
the active pair have the same layout (30_encoding.md R105). -/
def Obligations.PairLayoutRoundTrips : Prop :=
  (∀ w : Half, pairF w = w.toNat / 256 ∧ pairP w = w.toNat % 256 ∧ pairWord (pairF w) (pairP w) = w) ∧
  (∀ f p : Nat, f < 256 → p < 256 →
    (pairWord f p).toNat = f * 256 + p ∧ pairF (pairWord f p) = f ∧ pairP (pairWord f p) = p) ∧
  (∀ s : State,
    (s.readReg .fracInit).toNat = pairF s.initPair * 256 + pairP s.initPair ∧
    (s.readReg .fracOut).toNat = pairF s.fracOut * 256 + pairP s.fracOut)

/-! ### Reset and invariants -/

/-- Reset, from any state and in any mode, with the block's own parameters: every register at its reset value, every
written bit 0, the outputs of R340 (10_state.md R66; 70_reset_and_hazards.md R340). -/
def Obligations.ResetGivesEveryResetValue : Prop :=
  ∀ s : State, ∃ t, s.perform .reset = .next t ∧ t.params = s.params ∧
    t.readReg .id = 0x53570001#32 ∧ t.readReg .status = 0x00000020#32 ∧ t.readReg .periodFrac = 0x00010000#32 ∧
    t.readReg .params = s.readReg .params ∧
    (∀ r ∈ [Reg.cmd, .faultInfo, .inFreq, .pllCtl, .pllAcd, .fracInit, .expInc, .initCount, .kp, .ki, .kii, .lutSize,
      .lutAddr, .lutData, .measCount, .resError, .fracOut, .index, .setpoint, .totalErr, .prevCount, .accLo, .accHi,
      .acc2Lo, .acc2Hi, .limitILo, .limitIHi, .limitIILo, .limitIIHi], t.readReg r = 0#32) ∧
    (∀ i, t.lutWritten i = false) ∧ t.mode = .idle ∧
    t.fracO = 0#16 ∧ t.lockO = 0b10#2 ∧ t.faultO = false

/-- The combinational outputs right after reset, for any legal parameters (10_state.md R67). -/
def Obligations.CombinationalOutputsAfterReset : Prop :=
  ∀ p : Params, p.wf = true →
    let s := State.resetWith p
    s.selectedPair = s.initPair ∧ s.readReg .vcheck = 0x00000026#32 ∧
    s.readReg .freqNumLo = 0#32 ∧ s.readReg .freqNumHi = 0#32 ∧ s.readReg .freqDen = 4#32 ∧
    s.readReg .freqHz = 0#32 ∧ s.readReg .vcoHz = 0#32

/-- `ID` and `PARAMS` are constants: no step changes what they read, and for legal parameters `PARAMS` gives each
parameter in its field (10_state.md R21, R62). -/
def Obligations.IdentificationIsConstant : Prop :=
  (∀ s : State, s.readReg .id = 0x53570001#32) ∧
  (∀ s t : State, step s = .next t → t.params = s.params ∧ t.readReg .params = s.readReg .params) ∧
  (∀ s : State, s.params.wf = true →
    let w := (s.readReg .params).toNat
    w % 64 = s.params.cntW ∧ w / 256 % 16 = s.params.lutAW ∧ w / 65536 % 16 = s.params.acdW ∧
    w = s.params.cntW + 256 * s.params.lutAW + 65536 * s.params.acdW)

/-- Reset meets the invariant, for any legal parameters and whatever host events wait (the model's own list, log 2);
`State.reset` is the reset state for the parameter values the spec brackets (the model's choice, log 1). -/
def Obligations.ResetMeetsTheInvariant : Prop :=
  (∀ (p : Params) (es : List HostEvent), p.wf = true → ((State.resetWith p).withEvents es).Inv) ∧
  State.reset.Inv ∧ State.reset = State.resetWith { cntW := 16, lutAW := 12, acdW := 8 }

/-- Every step keeps the invariant: the mode order (10_state.md R68), one recorded fault (R32), the LUT memory's form
(R63), reserved bits 0 (R65), a validated configuration that passes its checks (40_frequency_validator.md R148), a
built table that passes its own with limits that agree (41_lut.md R176), and a lock status that says which entry is
active (10_state.md R28, R49). -/
def Obligations.StepKeepsTheInvariant : Prop := ∀ s t : State, s.Inv → step s = .next t → t.Inv

/-- Every step keeps the LUT memory in its canonical form (log 4), whatever else holds. -/
def Obligations.StepKeepsTheMemoryCanonical : Prop :=
  ∀ s t : State, Memory.wf s.lut → step s = .next t → Memory.wf t.lut
end

