-- ==== Sys2Proof/Laws/State.lean ====
section
/-! SUPPORT. One lemma per field per named update of the state, each true by rfl, so that no later proof unfolds a
record update. -/

namespace Sys2Proof.Machine

variable (s : State)

section raiseFaultFields

@[simp] theorem State.raiseFault_params (c : FaultCause) (i : Nat) : (s.raiseFault c i).params = s.params := rfl
@[simp] theorem State.raiseFault_cfgOk (c : FaultCause) (i : Nat) : (s.raiseFault c i).cfgOk = s.cfgOk := rfl
@[simp] theorem State.raiseFault_ready (c : FaultCause) (i : Nat) : (s.raiseFault c i).ready = s.ready := rfl
@[simp] theorem State.raiseFault_run (c : FaultCause) (i : Nat) : (s.raiseFault c i).run = s.run := rfl
@[simp] theorem State.raiseFault_fault (c : FaultCause) (i : Nat) : (s.raiseFault c i).fault = true := rfl
@[simp] theorem State.raiseFault_lock (c : FaultCause) (i : Nat) : (s.raiseFault c i).lock = s.lock := rfl
@[simp] theorem State.raiseFault_accSat (c : FaultCause) (i : Nat) : (s.raiseFault c i).accSat = s.accSat := rfl
@[simp] theorem State.raiseFault_acc2Sat (c : FaultCause) (i : Nat) : (s.raiseFault c i).acc2Sat = s.acc2Sat := rfl
@[simp] theorem State.raiseFault_cmdErr (c : FaultCause) (i : Nat) : (s.raiseFault c i).cmdErr = s.cmdErr := rfl
@[simp] theorem State.raiseFault_wrIgn (c : FaultCause) (i : Nat) : (s.raiseFault c i).wrIgn = s.wrIgn := rfl
@[simp] theorem State.raiseFault_faultCause (c : FaultCause) (i : Nat) : (s.raiseFault c i).faultCause = c := rfl
@[simp] theorem State.raiseFault_faultIndex (c : FaultCause) (i : Nat) : (s.raiseFault c i).faultIndex = BitVec.ofNat 16 i := rfl
@[simp] theorem State.raiseFault_inFreq (c : FaultCause) (i : Nat) : (s.raiseFault c i).inFreq = s.inFreq := rfl
@[simp] theorem State.raiseFault_pllCtl (c : FaultCause) (i : Nat) : (s.raiseFault c i).pllCtl = s.pllCtl := rfl
@[simp] theorem State.raiseFault_pllAcd (c : FaultCause) (i : Nat) : (s.raiseFault c i).pllAcd = s.pllAcd := rfl
@[simp] theorem State.raiseFault_fracInit (c : FaultCause) (i : Nat) : (s.raiseFault c i).fracInit = s.fracInit := rfl
@[simp] theorem State.raiseFault_expInc (c : FaultCause) (i : Nat) : (s.raiseFault c i).expInc = s.expInc := rfl
@[simp] theorem State.raiseFault_initCount (c : FaultCause) (i : Nat) : (s.raiseFault c i).initCount = s.initCount := rfl
@[simp] theorem State.raiseFault_kp (c : FaultCause) (i : Nat) : (s.raiseFault c i).kp = s.kp := rfl
@[simp] theorem State.raiseFault_ki (c : FaultCause) (i : Nat) : (s.raiseFault c i).ki = s.ki := rfl
@[simp] theorem State.raiseFault_kii (c : FaultCause) (i : Nat) : (s.raiseFault c i).kii = s.kii := rfl
@[simp] theorem State.raiseFault_lutSize (c : FaultCause) (i : Nat) : (s.raiseFault c i).lutSize = s.lutSize := rfl
@[simp] theorem State.raiseFault_lutAddr (c : FaultCause) (i : Nat) : (s.raiseFault c i).lutAddr = s.lutAddr := rfl
@[simp] theorem State.raiseFault_measCount (c : FaultCause) (i : Nat) : (s.raiseFault c i).measCount = s.measCount := rfl
@[simp] theorem State.raiseFault_periodFrac (c : FaultCause) (i : Nat) : (s.raiseFault c i).periodFrac = s.periodFrac := rfl
@[simp] theorem State.raiseFault_resError (c : FaultCause) (i : Nat) : (s.raiseFault c i).resError = s.resError := rfl
@[simp] theorem State.raiseFault_fracOut (c : FaultCause) (i : Nat) : (s.raiseFault c i).fracOut = s.fracOut := rfl
@[simp] theorem State.raiseFault_index (c : FaultCause) (i : Nat) : (s.raiseFault c i).index = s.index := rfl
@[simp] theorem State.raiseFault_setpoint (c : FaultCause) (i : Nat) : (s.raiseFault c i).setpoint = s.setpoint := rfl
@[simp] theorem State.raiseFault_totalErr (c : FaultCause) (i : Nat) : (s.raiseFault c i).totalErr = s.totalErr := rfl
@[simp] theorem State.raiseFault_prevCount (c : FaultCause) (i : Nat) : (s.raiseFault c i).prevCount = s.prevCount := rfl
@[simp] theorem State.raiseFault_acc (c : FaultCause) (i : Nat) : (s.raiseFault c i).acc = s.acc := rfl
@[simp] theorem State.raiseFault_acc2 (c : FaultCause) (i : Nat) : (s.raiseFault c i).acc2 = s.acc2 := rfl
@[simp] theorem State.raiseFault_limitI (c : FaultCause) (i : Nat) : (s.raiseFault c i).limitI = s.limitI := rfl
@[simp] theorem State.raiseFault_limitII (c : FaultCause) (i : Nat) : (s.raiseFault c i).limitII = s.limitII := rfl
@[simp] theorem State.raiseFault_lut (c : FaultCause) (i : Nat) : (s.raiseFault c i).lut = s.lut := rfl
@[simp] theorem State.raiseFault_pending (c : FaultCause) (i : Nat) : (s.raiseFault c i).pending = s.pending := rfl
@[simp] theorem State.raiseFault_response (c : FaultCause) (i : Nat) : (s.raiseFault c i).response = s.response := rfl

end raiseFaultFields

section raiseCmdErrFields

@[simp] theorem State.raiseCmdErr_params : (s.raiseCmdErr).params = s.params := rfl
@[simp] theorem State.raiseCmdErr_cfgOk : (s.raiseCmdErr).cfgOk = s.cfgOk := rfl
@[simp] theorem State.raiseCmdErr_ready : (s.raiseCmdErr).ready = s.ready := rfl
@[simp] theorem State.raiseCmdErr_run : (s.raiseCmdErr).run = s.run := rfl
@[simp] theorem State.raiseCmdErr_fault : (s.raiseCmdErr).fault = s.fault := rfl
@[simp] theorem State.raiseCmdErr_lock : (s.raiseCmdErr).lock = s.lock := rfl
@[simp] theorem State.raiseCmdErr_accSat : (s.raiseCmdErr).accSat = s.accSat := rfl
@[simp] theorem State.raiseCmdErr_acc2Sat : (s.raiseCmdErr).acc2Sat = s.acc2Sat := rfl
@[simp] theorem State.raiseCmdErr_cmdErr : (s.raiseCmdErr).cmdErr = true := rfl
@[simp] theorem State.raiseCmdErr_wrIgn : (s.raiseCmdErr).wrIgn = s.wrIgn := rfl
@[simp] theorem State.raiseCmdErr_faultCause : (s.raiseCmdErr).faultCause = s.faultCause := rfl
@[simp] theorem State.raiseCmdErr_faultIndex : (s.raiseCmdErr).faultIndex = s.faultIndex := rfl
@[simp] theorem State.raiseCmdErr_inFreq : (s.raiseCmdErr).inFreq = s.inFreq := rfl
@[simp] theorem State.raiseCmdErr_pllCtl : (s.raiseCmdErr).pllCtl = s.pllCtl := rfl
@[simp] theorem State.raiseCmdErr_pllAcd : (s.raiseCmdErr).pllAcd = s.pllAcd := rfl
@[simp] theorem State.raiseCmdErr_fracInit : (s.raiseCmdErr).fracInit = s.fracInit := rfl
@[simp] theorem State.raiseCmdErr_expInc : (s.raiseCmdErr).expInc = s.expInc := rfl
@[simp] theorem State.raiseCmdErr_initCount : (s.raiseCmdErr).initCount = s.initCount := rfl
@[simp] theorem State.raiseCmdErr_kp : (s.raiseCmdErr).kp = s.kp := rfl
@[simp] theorem State.raiseCmdErr_ki : (s.raiseCmdErr).ki = s.ki := rfl
@[simp] theorem State.raiseCmdErr_kii : (s.raiseCmdErr).kii = s.kii := rfl
@[simp] theorem State.raiseCmdErr_lutSize : (s.raiseCmdErr).lutSize = s.lutSize := rfl
@[simp] theorem State.raiseCmdErr_lutAddr : (s.raiseCmdErr).lutAddr = s.lutAddr := rfl
@[simp] theorem State.raiseCmdErr_measCount : (s.raiseCmdErr).measCount = s.measCount := rfl
@[simp] theorem State.raiseCmdErr_periodFrac : (s.raiseCmdErr).periodFrac = s.periodFrac := rfl
@[simp] theorem State.raiseCmdErr_resError : (s.raiseCmdErr).resError = s.resError := rfl
@[simp] theorem State.raiseCmdErr_fracOut : (s.raiseCmdErr).fracOut = s.fracOut := rfl
@[simp] theorem State.raiseCmdErr_index : (s.raiseCmdErr).index = s.index := rfl
@[simp] theorem State.raiseCmdErr_setpoint : (s.raiseCmdErr).setpoint = s.setpoint := rfl
@[simp] theorem State.raiseCmdErr_totalErr : (s.raiseCmdErr).totalErr = s.totalErr := rfl
@[simp] theorem State.raiseCmdErr_prevCount : (s.raiseCmdErr).prevCount = s.prevCount := rfl
@[simp] theorem State.raiseCmdErr_acc : (s.raiseCmdErr).acc = s.acc := rfl
@[simp] theorem State.raiseCmdErr_acc2 : (s.raiseCmdErr).acc2 = s.acc2 := rfl
@[simp] theorem State.raiseCmdErr_limitI : (s.raiseCmdErr).limitI = s.limitI := rfl
@[simp] theorem State.raiseCmdErr_limitII : (s.raiseCmdErr).limitII = s.limitII := rfl
@[simp] theorem State.raiseCmdErr_lut : (s.raiseCmdErr).lut = s.lut := rfl
@[simp] theorem State.raiseCmdErr_pending : (s.raiseCmdErr).pending = s.pending := rfl
@[simp] theorem State.raiseCmdErr_response : (s.raiseCmdErr).response = s.response := rfl

end raiseCmdErrFields

section ignoreWriteFields

@[simp] theorem State.ignoreWrite_params : (s.ignoreWrite).params = s.params := rfl
@[simp] theorem State.ignoreWrite_cfgOk : (s.ignoreWrite).cfgOk = s.cfgOk := rfl
@[simp] theorem State.ignoreWrite_ready : (s.ignoreWrite).ready = s.ready := rfl
@[simp] theorem State.ignoreWrite_run : (s.ignoreWrite).run = s.run := rfl
@[simp] theorem State.ignoreWrite_fault : (s.ignoreWrite).fault = s.fault := rfl
@[simp] theorem State.ignoreWrite_lock : (s.ignoreWrite).lock = s.lock := rfl
@[simp] theorem State.ignoreWrite_accSat : (s.ignoreWrite).accSat = s.accSat := rfl
@[simp] theorem State.ignoreWrite_acc2Sat : (s.ignoreWrite).acc2Sat = s.acc2Sat := rfl
@[simp] theorem State.ignoreWrite_cmdErr : (s.ignoreWrite).cmdErr = s.cmdErr := rfl
@[simp] theorem State.ignoreWrite_wrIgn : (s.ignoreWrite).wrIgn = true := rfl
@[simp] theorem State.ignoreWrite_faultCause : (s.ignoreWrite).faultCause = s.faultCause := rfl
@[simp] theorem State.ignoreWrite_faultIndex : (s.ignoreWrite).faultIndex = s.faultIndex := rfl
@[simp] theorem State.ignoreWrite_inFreq : (s.ignoreWrite).inFreq = s.inFreq := rfl
@[simp] theorem State.ignoreWrite_pllCtl : (s.ignoreWrite).pllCtl = s.pllCtl := rfl
@[simp] theorem State.ignoreWrite_pllAcd : (s.ignoreWrite).pllAcd = s.pllAcd := rfl
@[simp] theorem State.ignoreWrite_fracInit : (s.ignoreWrite).fracInit = s.fracInit := rfl
@[simp] theorem State.ignoreWrite_expInc : (s.ignoreWrite).expInc = s.expInc := rfl
@[simp] theorem State.ignoreWrite_initCount : (s.ignoreWrite).initCount = s.initCount := rfl
@[simp] theorem State.ignoreWrite_kp : (s.ignoreWrite).kp = s.kp := rfl
@[simp] theorem State.ignoreWrite_ki : (s.ignoreWrite).ki = s.ki := rfl
@[simp] theorem State.ignoreWrite_kii : (s.ignoreWrite).kii = s.kii := rfl
@[simp] theorem State.ignoreWrite_lutSize : (s.ignoreWrite).lutSize = s.lutSize := rfl
@[simp] theorem State.ignoreWrite_lutAddr : (s.ignoreWrite).lutAddr = s.lutAddr := rfl
@[simp] theorem State.ignoreWrite_measCount : (s.ignoreWrite).measCount = s.measCount := rfl
@[simp] theorem State.ignoreWrite_periodFrac : (s.ignoreWrite).periodFrac = s.periodFrac := rfl
@[simp] theorem State.ignoreWrite_resError : (s.ignoreWrite).resError = s.resError := rfl
@[simp] theorem State.ignoreWrite_fracOut : (s.ignoreWrite).fracOut = s.fracOut := rfl
@[simp] theorem State.ignoreWrite_index : (s.ignoreWrite).index = s.index := rfl
@[simp] theorem State.ignoreWrite_setpoint : (s.ignoreWrite).setpoint = s.setpoint := rfl
@[simp] theorem State.ignoreWrite_totalErr : (s.ignoreWrite).totalErr = s.totalErr := rfl
@[simp] theorem State.ignoreWrite_prevCount : (s.ignoreWrite).prevCount = s.prevCount := rfl
@[simp] theorem State.ignoreWrite_acc : (s.ignoreWrite).acc = s.acc := rfl
@[simp] theorem State.ignoreWrite_acc2 : (s.ignoreWrite).acc2 = s.acc2 := rfl
@[simp] theorem State.ignoreWrite_limitI : (s.ignoreWrite).limitI = s.limitI := rfl
@[simp] theorem State.ignoreWrite_limitII : (s.ignoreWrite).limitII = s.limitII := rfl
@[simp] theorem State.ignoreWrite_lut : (s.ignoreWrite).lut = s.lut := rfl
@[simp] theorem State.ignoreWrite_pending : (s.ignoreWrite).pending = s.pending := rfl
@[simp] theorem State.ignoreWrite_response : (s.ignoreWrite).response = s.response := rfl

end ignoreWriteFields

section respondFields

@[simp] theorem State.respond_params (r : Response) : (s.respond r).params = s.params := rfl
@[simp] theorem State.respond_cfgOk (r : Response) : (s.respond r).cfgOk = s.cfgOk := rfl
@[simp] theorem State.respond_ready (r : Response) : (s.respond r).ready = s.ready := rfl
@[simp] theorem State.respond_run (r : Response) : (s.respond r).run = s.run := rfl
@[simp] theorem State.respond_fault (r : Response) : (s.respond r).fault = s.fault := rfl
@[simp] theorem State.respond_lock (r : Response) : (s.respond r).lock = s.lock := rfl
@[simp] theorem State.respond_accSat (r : Response) : (s.respond r).accSat = s.accSat := rfl
@[simp] theorem State.respond_acc2Sat (r : Response) : (s.respond r).acc2Sat = s.acc2Sat := rfl
@[simp] theorem State.respond_cmdErr (r : Response) : (s.respond r).cmdErr = s.cmdErr := rfl
@[simp] theorem State.respond_wrIgn (r : Response) : (s.respond r).wrIgn = s.wrIgn := rfl
@[simp] theorem State.respond_faultCause (r : Response) : (s.respond r).faultCause = s.faultCause := rfl
@[simp] theorem State.respond_faultIndex (r : Response) : (s.respond r).faultIndex = s.faultIndex := rfl
@[simp] theorem State.respond_inFreq (r : Response) : (s.respond r).inFreq = s.inFreq := rfl
@[simp] theorem State.respond_pllCtl (r : Response) : (s.respond r).pllCtl = s.pllCtl := rfl
@[simp] theorem State.respond_pllAcd (r : Response) : (s.respond r).pllAcd = s.pllAcd := rfl
@[simp] theorem State.respond_fracInit (r : Response) : (s.respond r).fracInit = s.fracInit := rfl
@[simp] theorem State.respond_expInc (r : Response) : (s.respond r).expInc = s.expInc := rfl
@[simp] theorem State.respond_initCount (r : Response) : (s.respond r).initCount = s.initCount := rfl
@[simp] theorem State.respond_kp (r : Response) : (s.respond r).kp = s.kp := rfl
@[simp] theorem State.respond_ki (r : Response) : (s.respond r).ki = s.ki := rfl
@[simp] theorem State.respond_kii (r : Response) : (s.respond r).kii = s.kii := rfl
@[simp] theorem State.respond_lutSize (r : Response) : (s.respond r).lutSize = s.lutSize := rfl
@[simp] theorem State.respond_lutAddr (r : Response) : (s.respond r).lutAddr = s.lutAddr := rfl
@[simp] theorem State.respond_measCount (r : Response) : (s.respond r).measCount = s.measCount := rfl
@[simp] theorem State.respond_periodFrac (r : Response) : (s.respond r).periodFrac = s.periodFrac := rfl
@[simp] theorem State.respond_resError (r : Response) : (s.respond r).resError = s.resError := rfl
@[simp] theorem State.respond_fracOut (r : Response) : (s.respond r).fracOut = s.fracOut := rfl
@[simp] theorem State.respond_index (r : Response) : (s.respond r).index = s.index := rfl
@[simp] theorem State.respond_setpoint (r : Response) : (s.respond r).setpoint = s.setpoint := rfl
@[simp] theorem State.respond_totalErr (r : Response) : (s.respond r).totalErr = s.totalErr := rfl
@[simp] theorem State.respond_prevCount (r : Response) : (s.respond r).prevCount = s.prevCount := rfl
@[simp] theorem State.respond_acc (r : Response) : (s.respond r).acc = s.acc := rfl
@[simp] theorem State.respond_acc2 (r : Response) : (s.respond r).acc2 = s.acc2 := rfl
@[simp] theorem State.respond_limitI (r : Response) : (s.respond r).limitI = s.limitI := rfl
@[simp] theorem State.respond_limitII (r : Response) : (s.respond r).limitII = s.limitII := rfl
@[simp] theorem State.respond_lut (r : Response) : (s.respond r).lut = s.lut := rfl
@[simp] theorem State.respond_pending (r : Response) : (s.respond r).pending = s.pending := rfl
@[simp] theorem State.respond_response (r : Response) : (s.respond r).response = r := rfl

end respondFields

section passValidateFields

@[simp] theorem State.passValidate_params : (s.passValidate).params = s.params := rfl
@[simp] theorem State.passValidate_cfgOk : (s.passValidate).cfgOk = true := rfl
@[simp] theorem State.passValidate_ready : (s.passValidate).ready = s.ready := rfl
@[simp] theorem State.passValidate_run : (s.passValidate).run = s.run := rfl
@[simp] theorem State.passValidate_fault : (s.passValidate).fault = s.fault := rfl
@[simp] theorem State.passValidate_lock : (s.passValidate).lock = s.lock := rfl
@[simp] theorem State.passValidate_accSat : (s.passValidate).accSat = s.accSat := rfl
@[simp] theorem State.passValidate_acc2Sat : (s.passValidate).acc2Sat = s.acc2Sat := rfl
@[simp] theorem State.passValidate_cmdErr : (s.passValidate).cmdErr = s.cmdErr := rfl
@[simp] theorem State.passValidate_wrIgn : (s.passValidate).wrIgn = s.wrIgn := rfl
@[simp] theorem State.passValidate_faultCause : (s.passValidate).faultCause = s.faultCause := rfl
@[simp] theorem State.passValidate_faultIndex : (s.passValidate).faultIndex = s.faultIndex := rfl
@[simp] theorem State.passValidate_inFreq : (s.passValidate).inFreq = s.inFreq := rfl
@[simp] theorem State.passValidate_pllCtl : (s.passValidate).pllCtl = s.pllCtl := rfl
@[simp] theorem State.passValidate_pllAcd : (s.passValidate).pllAcd = s.pllAcd := rfl
@[simp] theorem State.passValidate_fracInit : (s.passValidate).fracInit = s.fracInit := rfl
@[simp] theorem State.passValidate_expInc : (s.passValidate).expInc = s.expInc := rfl
@[simp] theorem State.passValidate_initCount : (s.passValidate).initCount = s.initCount := rfl
@[simp] theorem State.passValidate_kp : (s.passValidate).kp = s.kp := rfl
@[simp] theorem State.passValidate_ki : (s.passValidate).ki = s.ki := rfl
@[simp] theorem State.passValidate_kii : (s.passValidate).kii = s.kii := rfl
@[simp] theorem State.passValidate_lutSize : (s.passValidate).lutSize = s.lutSize := rfl
@[simp] theorem State.passValidate_lutAddr : (s.passValidate).lutAddr = s.lutAddr := rfl
@[simp] theorem State.passValidate_measCount : (s.passValidate).measCount = s.measCount := rfl
@[simp] theorem State.passValidate_periodFrac : (s.passValidate).periodFrac = s.periodFrac := rfl
@[simp] theorem State.passValidate_resError : (s.passValidate).resError = s.resError := rfl
@[simp] theorem State.passValidate_fracOut : (s.passValidate).fracOut = s.initPair := rfl
@[simp] theorem State.passValidate_index : (s.passValidate).index = s.index := rfl
@[simp] theorem State.passValidate_setpoint : (s.passValidate).setpoint = s.setpoint := rfl
@[simp] theorem State.passValidate_totalErr : (s.passValidate).totalErr = s.totalErr := rfl
@[simp] theorem State.passValidate_prevCount : (s.passValidate).prevCount = s.prevCount := rfl
@[simp] theorem State.passValidate_acc : (s.passValidate).acc = s.acc := rfl
@[simp] theorem State.passValidate_acc2 : (s.passValidate).acc2 = s.acc2 := rfl
@[simp] theorem State.passValidate_limitI : (s.passValidate).limitI = s.limitI := rfl
@[simp] theorem State.passValidate_limitII : (s.passValidate).limitII = s.limitII := rfl
@[simp] theorem State.passValidate_lut : (s.passValidate).lut = s.lut := rfl
@[simp] theorem State.passValidate_pending : (s.passValidate).pending = s.pending := rfl
@[simp] theorem State.passValidate_response : (s.passValidate).response = s.response := rfl

end passValidateFields

section passBuildFields

@[simp] theorem State.passBuild_params : (s.passBuild).params = s.params := rfl
@[simp] theorem State.passBuild_cfgOk : (s.passBuild).cfgOk = s.cfgOk := rfl
@[simp] theorem State.passBuild_ready : (s.passBuild).ready = true := rfl
@[simp] theorem State.passBuild_run : (s.passBuild).run = s.run := rfl
@[simp] theorem State.passBuild_fault : (s.passBuild).fault = s.fault := rfl
@[simp] theorem State.passBuild_lock : (s.passBuild).lock = s.lock := rfl
@[simp] theorem State.passBuild_accSat : (s.passBuild).accSat = s.accSat := rfl
@[simp] theorem State.passBuild_acc2Sat : (s.passBuild).acc2Sat = s.acc2Sat := rfl
@[simp] theorem State.passBuild_cmdErr : (s.passBuild).cmdErr = s.cmdErr := rfl
@[simp] theorem State.passBuild_wrIgn : (s.passBuild).wrIgn = s.wrIgn := rfl
@[simp] theorem State.passBuild_faultCause : (s.passBuild).faultCause = s.faultCause := rfl
@[simp] theorem State.passBuild_faultIndex : (s.passBuild).faultIndex = s.faultIndex := rfl
@[simp] theorem State.passBuild_inFreq : (s.passBuild).inFreq = s.inFreq := rfl
@[simp] theorem State.passBuild_pllCtl : (s.passBuild).pllCtl = s.pllCtl := rfl
@[simp] theorem State.passBuild_pllAcd : (s.passBuild).pllAcd = s.pllAcd := rfl
@[simp] theorem State.passBuild_fracInit : (s.passBuild).fracInit = s.fracInit := rfl
@[simp] theorem State.passBuild_expInc : (s.passBuild).expInc = s.expInc := rfl
@[simp] theorem State.passBuild_initCount : (s.passBuild).initCount = s.initCount := rfl
@[simp] theorem State.passBuild_kp : (s.passBuild).kp = s.kp := rfl
@[simp] theorem State.passBuild_ki : (s.passBuild).ki = s.ki := rfl
@[simp] theorem State.passBuild_kii : (s.passBuild).kii = s.kii := rfl
@[simp] theorem State.passBuild_lutSize : (s.passBuild).lutSize = s.lutSize := rfl
@[simp] theorem State.passBuild_lutAddr : (s.passBuild).lutAddr = s.lutAddr := rfl
@[simp] theorem State.passBuild_measCount : (s.passBuild).measCount = s.measCount := rfl
@[simp] theorem State.passBuild_periodFrac : (s.passBuild).periodFrac = s.periodFrac := rfl
@[simp] theorem State.passBuild_resError : (s.passBuild).resError = s.resError := rfl
@[simp] theorem State.passBuild_fracOut : (s.passBuild).fracOut = s.fracOut := rfl
@[simp] theorem State.passBuild_index : (s.passBuild).index = s.index := rfl
@[simp] theorem State.passBuild_setpoint : (s.passBuild).setpoint = s.setpoint := rfl
@[simp] theorem State.passBuild_totalErr : (s.passBuild).totalErr = s.totalErr := rfl
@[simp] theorem State.passBuild_prevCount : (s.passBuild).prevCount = s.prevCount := rfl
@[simp] theorem State.passBuild_acc : (s.passBuild).acc = s.acc := rfl
@[simp] theorem State.passBuild_acc2 : (s.passBuild).acc2 = s.acc2 := rfl
@[simp] theorem State.passBuild_limitI : (s.passBuild).limitI = BitVec.ofNat 64 (windupLimit s.tableSize s.ki.toNat) := rfl
@[simp] theorem State.passBuild_limitII : (s.passBuild).limitII = BitVec.ofNat 64 (windupLimit s.tableSize s.kii.toNat) := rfl
@[simp] theorem State.passBuild_lut : (s.passBuild).lut = s.lut := rfl
@[simp] theorem State.passBuild_pending : (s.passBuild).pending = s.pending := rfl
@[simp] theorem State.passBuild_response : (s.passBuild).response = s.response := rfl

end passBuildFields

section resolveFields

@[simp] theorem State.resolve_params (e : Int) : (s.resolve e).params = s.params := rfl
@[simp] theorem State.resolve_cfgOk (e : Int) : (s.resolve e).cfgOk = s.cfgOk := rfl
@[simp] theorem State.resolve_ready (e : Int) : (s.resolve e).ready = s.ready := rfl
@[simp] theorem State.resolve_run (e : Int) : (s.resolve e).run = s.run := rfl
@[simp] theorem State.resolve_fault (e : Int) : (s.resolve e).fault = s.fault := rfl
@[simp] theorem State.resolve_lock (e : Int) : (s.resolve e).lock = lockOf s.tableSize (s.setPointOf e) := rfl
@[simp] theorem State.resolve_accSat (e : Int) : (s.resolve e).accSat = s.accSat := rfl
@[simp] theorem State.resolve_acc2Sat (e : Int) : (s.resolve e).acc2Sat = s.acc2Sat := rfl
@[simp] theorem State.resolve_cmdErr (e : Int) : (s.resolve e).cmdErr = s.cmdErr := rfl
@[simp] theorem State.resolve_wrIgn (e : Int) : (s.resolve e).wrIgn = s.wrIgn := rfl
@[simp] theorem State.resolve_faultCause (e : Int) : (s.resolve e).faultCause = s.faultCause := rfl
@[simp] theorem State.resolve_faultIndex (e : Int) : (s.resolve e).faultIndex = s.faultIndex := rfl
@[simp] theorem State.resolve_inFreq (e : Int) : (s.resolve e).inFreq = s.inFreq := rfl
@[simp] theorem State.resolve_pllCtl (e : Int) : (s.resolve e).pllCtl = s.pllCtl := rfl
@[simp] theorem State.resolve_pllAcd (e : Int) : (s.resolve e).pllAcd = s.pllAcd := rfl
@[simp] theorem State.resolve_fracInit (e : Int) : (s.resolve e).fracInit = s.fracInit := rfl
@[simp] theorem State.resolve_expInc (e : Int) : (s.resolve e).expInc = s.expInc := rfl
@[simp] theorem State.resolve_initCount (e : Int) : (s.resolve e).initCount = s.initCount := rfl
@[simp] theorem State.resolve_kp (e : Int) : (s.resolve e).kp = s.kp := rfl
@[simp] theorem State.resolve_ki (e : Int) : (s.resolve e).ki = s.ki := rfl
@[simp] theorem State.resolve_kii (e : Int) : (s.resolve e).kii = s.kii := rfl
@[simp] theorem State.resolve_lutSize (e : Int) : (s.resolve e).lutSize = s.lutSize := rfl
@[simp] theorem State.resolve_lutAddr (e : Int) : (s.resolve e).lutAddr = s.lutAddr := rfl
@[simp] theorem State.resolve_measCount (e : Int) : (s.resolve e).measCount = s.measCount := rfl
@[simp] theorem State.resolve_periodFrac (e : Int) : (s.resolve e).periodFrac = s.periodFrac := rfl
@[simp] theorem State.resolve_resError (e : Int) : (s.resolve e).resError = s.resError := rfl
@[simp] theorem State.resolve_fracOut (e : Int) : (s.resolve e).fracOut = s.lutWord (s.selectIndex e) := rfl
@[simp] theorem State.resolve_index (e : Int) : (s.resolve e).index = keepLow s.params.lutAW (BitVec.ofNat 32 (s.selectIndex e)) := rfl
@[simp] theorem State.resolve_setpoint (e : Int) : (s.resolve e).setpoint = satS 32 (s.setPointOf e) := rfl
@[simp] theorem State.resolve_totalErr (e : Int) : (s.resolve e).totalErr = satS 32 e := rfl
@[simp] theorem State.resolve_prevCount (e : Int) : (s.resolve e).prevCount = s.prevCount := rfl
@[simp] theorem State.resolve_acc (e : Int) : (s.resolve e).acc = s.acc := rfl
@[simp] theorem State.resolve_acc2 (e : Int) : (s.resolve e).acc2 = s.acc2 := rfl
@[simp] theorem State.resolve_limitI (e : Int) : (s.resolve e).limitI = s.limitI := rfl
@[simp] theorem State.resolve_limitII (e : Int) : (s.resolve e).limitII = s.limitII := rfl
@[simp] theorem State.resolve_lut (e : Int) : (s.resolve e).lut = s.lut := rfl
@[simp] theorem State.resolve_pending (e : Int) : (s.resolve e).pending = s.pending := rfl
@[simp] theorem State.resolve_response (e : Int) : (s.resolve e).response = s.response := rfl

end resolveFields

section initControllerFields

@[simp] theorem State.initController_params : (s.initController).params = s.params := rfl
@[simp] theorem State.initController_cfgOk : (s.initController).cfgOk = s.cfgOk := rfl
@[simp] theorem State.initController_ready : (s.initController).ready = s.ready := rfl
@[simp] theorem State.initController_run : (s.initController).run = true := rfl
@[simp] theorem State.initController_fault : (s.initController).fault = s.fault := rfl
@[simp] theorem State.initController_lock : (s.initController).lock = .none := rfl
@[simp] theorem State.initController_accSat : (s.initController).accSat = false := rfl
@[simp] theorem State.initController_acc2Sat : (s.initController).acc2Sat = false := rfl
@[simp] theorem State.initController_cmdErr : (s.initController).cmdErr = s.cmdErr := rfl
@[simp] theorem State.initController_wrIgn : (s.initController).wrIgn = s.wrIgn := rfl
@[simp] theorem State.initController_faultCause : (s.initController).faultCause = s.faultCause := rfl
@[simp] theorem State.initController_faultIndex : (s.initController).faultIndex = s.faultIndex := rfl
@[simp] theorem State.initController_inFreq : (s.initController).inFreq = s.inFreq := rfl
@[simp] theorem State.initController_pllCtl : (s.initController).pllCtl = s.pllCtl := rfl
@[simp] theorem State.initController_pllAcd : (s.initController).pllAcd = s.pllAcd := rfl
@[simp] theorem State.initController_fracInit : (s.initController).fracInit = s.fracInit := rfl
@[simp] theorem State.initController_expInc : (s.initController).expInc = s.expInc := rfl
@[simp] theorem State.initController_initCount : (s.initController).initCount = s.initCount := rfl
@[simp] theorem State.initController_kp : (s.initController).kp = s.kp := rfl
@[simp] theorem State.initController_ki : (s.initController).ki = s.ki := rfl
@[simp] theorem State.initController_kii : (s.initController).kii = s.kii := rfl
@[simp] theorem State.initController_lutSize : (s.initController).lutSize = s.lutSize := rfl
@[simp] theorem State.initController_lutAddr : (s.initController).lutAddr = s.lutAddr := rfl
@[simp] theorem State.initController_measCount : (s.initController).measCount = s.measCount := rfl
@[simp] theorem State.initController_periodFrac : (s.initController).periodFrac = s.periodFrac := rfl
@[simp] theorem State.initController_resError : (s.initController).resError = s.resError := rfl
@[simp] theorem State.initController_fracOut : (s.initController).fracOut = s.initPair := rfl
@[simp] theorem State.initController_index : (s.initController).index = 0#32 := rfl
@[simp] theorem State.initController_setpoint : (s.initController).setpoint = 0#32 := rfl
@[simp] theorem State.initController_totalErr : (s.initController).totalErr = 0#32 := rfl
@[simp] theorem State.initController_prevCount : (s.initController).prevCount = s.countWord s.initCount := rfl
@[simp] theorem State.initController_acc : (s.initController).acc = 0#64 := rfl
@[simp] theorem State.initController_acc2 : (s.initController).acc2 = 0#64 := rfl
@[simp] theorem State.initController_limitI : (s.initController).limitI = s.limitI := rfl
@[simp] theorem State.initController_limitII : (s.initController).limitII = s.limitII := rfl
@[simp] theorem State.initController_lut : (s.initController).lut = s.lut := rfl
@[simp] theorem State.initController_pending : (s.initController).pending = s.pending := rfl
@[simp] theorem State.initController_response : (s.initController).response = s.response := rfl

end initControllerFields

section integrateFields

@[simp] theorem State.integrate_params : (s.integrate).params = s.params := rfl
@[simp] theorem State.integrate_cfgOk : (s.integrate).cfgOk = s.cfgOk := rfl
@[simp] theorem State.integrate_ready : (s.integrate).ready = s.ready := rfl
@[simp] theorem State.integrate_run : (s.integrate).run = s.run := rfl
@[simp] theorem State.integrate_fault : (s.integrate).fault = s.fault := rfl
@[simp] theorem State.integrate_lock : (s.integrate).lock = s.lock := rfl
@[simp] theorem State.integrate_accSat : (s.integrate).accSat = (s.accSat || saturates 64 s.accSum) := rfl
@[simp] theorem State.integrate_acc2Sat : (s.integrate).acc2Sat = (s.acc2Sat || saturates 64 s.acc2Sum) := rfl
@[simp] theorem State.integrate_cmdErr : (s.integrate).cmdErr = s.cmdErr := rfl
@[simp] theorem State.integrate_wrIgn : (s.integrate).wrIgn = s.wrIgn := rfl
@[simp] theorem State.integrate_faultCause : (s.integrate).faultCause = s.faultCause := rfl
@[simp] theorem State.integrate_faultIndex : (s.integrate).faultIndex = s.faultIndex := rfl
@[simp] theorem State.integrate_inFreq : (s.integrate).inFreq = s.inFreq := rfl
@[simp] theorem State.integrate_pllCtl : (s.integrate).pllCtl = s.pllCtl := rfl
@[simp] theorem State.integrate_pllAcd : (s.integrate).pllAcd = s.pllAcd := rfl
@[simp] theorem State.integrate_fracInit : (s.integrate).fracInit = s.fracInit := rfl
@[simp] theorem State.integrate_expInc : (s.integrate).expInc = s.expInc := rfl
@[simp] theorem State.integrate_initCount : (s.integrate).initCount = s.initCount := rfl
@[simp] theorem State.integrate_kp : (s.integrate).kp = s.kp := rfl
@[simp] theorem State.integrate_ki : (s.integrate).ki = s.ki := rfl
@[simp] theorem State.integrate_kii : (s.integrate).kii = s.kii := rfl
@[simp] theorem State.integrate_lutSize : (s.integrate).lutSize = s.lutSize := rfl
@[simp] theorem State.integrate_lutAddr : (s.integrate).lutAddr = s.lutAddr := rfl
@[simp] theorem State.integrate_measCount : (s.integrate).measCount = s.measCount := rfl
@[simp] theorem State.integrate_periodFrac : (s.integrate).periodFrac = s.periodFrac := rfl
@[simp] theorem State.integrate_resError : (s.integrate).resError = s.resError := rfl
@[simp] theorem State.integrate_fracOut : (s.integrate).fracOut = s.fracOut := rfl
@[simp] theorem State.integrate_index : (s.integrate).index = s.index := rfl
@[simp] theorem State.integrate_setpoint : (s.integrate).setpoint = s.setpoint := rfl
@[simp] theorem State.integrate_totalErr : (s.integrate).totalErr = s.totalErr := rfl
@[simp] theorem State.integrate_prevCount : (s.integrate).prevCount = s.countWord s.measCount := rfl
@[simp] theorem State.integrate_acc : (s.integrate).acc = s.nextAcc := rfl
@[simp] theorem State.integrate_acc2 : (s.integrate).acc2 = s.nextAcc2 := rfl
@[simp] theorem State.integrate_limitI : (s.integrate).limitI = s.limitI := rfl
@[simp] theorem State.integrate_limitII : (s.integrate).limitII = s.limitII := rfl
@[simp] theorem State.integrate_lut : (s.integrate).lut = s.lut := rfl
@[simp] theorem State.integrate_pending : (s.integrate).pending = s.pending := rfl
@[simp] theorem State.integrate_response : (s.integrate).response = s.response := rfl

end integrateFields

section reloadPeriodFields

@[simp] theorem State.reloadPeriod_params : (s.reloadPeriod).params = s.params := rfl
@[simp] theorem State.reloadPeriod_cfgOk : (s.reloadPeriod).cfgOk = s.cfgOk := rfl
@[simp] theorem State.reloadPeriod_ready : (s.reloadPeriod).ready = s.ready := rfl
@[simp] theorem State.reloadPeriod_run : (s.reloadPeriod).run = s.run := rfl
@[simp] theorem State.reloadPeriod_fault : (s.reloadPeriod).fault = s.fault := rfl
@[simp] theorem State.reloadPeriod_lock : (s.reloadPeriod).lock = s.lock := rfl
@[simp] theorem State.reloadPeriod_accSat : (s.reloadPeriod).accSat = s.accSat := rfl
@[simp] theorem State.reloadPeriod_acc2Sat : (s.reloadPeriod).acc2Sat = s.acc2Sat := rfl
@[simp] theorem State.reloadPeriod_cmdErr : (s.reloadPeriod).cmdErr = s.cmdErr := rfl
@[simp] theorem State.reloadPeriod_wrIgn : (s.reloadPeriod).wrIgn = s.wrIgn := rfl
@[simp] theorem State.reloadPeriod_faultCause : (s.reloadPeriod).faultCause = s.faultCause := rfl
@[simp] theorem State.reloadPeriod_faultIndex : (s.reloadPeriod).faultIndex = s.faultIndex := rfl
@[simp] theorem State.reloadPeriod_inFreq : (s.reloadPeriod).inFreq = s.inFreq := rfl
@[simp] theorem State.reloadPeriod_pllCtl : (s.reloadPeriod).pllCtl = s.pllCtl := rfl
@[simp] theorem State.reloadPeriod_pllAcd : (s.reloadPeriod).pllAcd = s.pllAcd := rfl
@[simp] theorem State.reloadPeriod_fracInit : (s.reloadPeriod).fracInit = s.fracInit := rfl
@[simp] theorem State.reloadPeriod_expInc : (s.reloadPeriod).expInc = s.expInc := rfl
@[simp] theorem State.reloadPeriod_initCount : (s.reloadPeriod).initCount = s.initCount := rfl
@[simp] theorem State.reloadPeriod_kp : (s.reloadPeriod).kp = s.kp := rfl
@[simp] theorem State.reloadPeriod_ki : (s.reloadPeriod).ki = s.ki := rfl
@[simp] theorem State.reloadPeriod_kii : (s.reloadPeriod).kii = s.kii := rfl
@[simp] theorem State.reloadPeriod_lutSize : (s.reloadPeriod).lutSize = s.lutSize := rfl
@[simp] theorem State.reloadPeriod_lutAddr : (s.reloadPeriod).lutAddr = s.lutAddr := rfl
@[simp] theorem State.reloadPeriod_measCount : (s.reloadPeriod).measCount = s.measCount := rfl
@[simp] theorem State.reloadPeriod_periodFrac : (s.reloadPeriod).periodFrac = onePointZero := rfl
@[simp] theorem State.reloadPeriod_resError : (s.reloadPeriod).resError = s.resError := rfl
@[simp] theorem State.reloadPeriod_fracOut : (s.reloadPeriod).fracOut = s.fracOut := rfl
@[simp] theorem State.reloadPeriod_index : (s.reloadPeriod).index = s.index := rfl
@[simp] theorem State.reloadPeriod_setpoint : (s.reloadPeriod).setpoint = s.setpoint := rfl
@[simp] theorem State.reloadPeriod_totalErr : (s.reloadPeriod).totalErr = s.totalErr := rfl
@[simp] theorem State.reloadPeriod_prevCount : (s.reloadPeriod).prevCount = s.prevCount := rfl
@[simp] theorem State.reloadPeriod_acc : (s.reloadPeriod).acc = s.acc := rfl
@[simp] theorem State.reloadPeriod_acc2 : (s.reloadPeriod).acc2 = s.acc2 := rfl
@[simp] theorem State.reloadPeriod_limitI : (s.reloadPeriod).limitI = s.limitI := rfl
@[simp] theorem State.reloadPeriod_limitII : (s.reloadPeriod).limitII = s.limitII := rfl
@[simp] theorem State.reloadPeriod_lut : (s.reloadPeriod).lut = s.lut := rfl
@[simp] theorem State.reloadPeriod_pending : (s.reloadPeriod).pending = s.pending := rfl
@[simp] theorem State.reloadPeriod_response : (s.reloadPeriod).response = s.response := rfl

end reloadPeriodFields

section clearModesFields

@[simp] theorem State.clearModes_params : (s.clearModes).params = s.params := rfl
@[simp] theorem State.clearModes_cfgOk : (s.clearModes).cfgOk = false := rfl
@[simp] theorem State.clearModes_ready : (s.clearModes).ready = false := rfl
@[simp] theorem State.clearModes_run : (s.clearModes).run = false := rfl
@[simp] theorem State.clearModes_fault : (s.clearModes).fault = s.fault := rfl
@[simp] theorem State.clearModes_lock : (s.clearModes).lock = .none := rfl
@[simp] theorem State.clearModes_accSat : (s.clearModes).accSat = s.accSat := rfl
@[simp] theorem State.clearModes_acc2Sat : (s.clearModes).acc2Sat = s.acc2Sat := rfl
@[simp] theorem State.clearModes_cmdErr : (s.clearModes).cmdErr = false := rfl
@[simp] theorem State.clearModes_wrIgn : (s.clearModes).wrIgn = false := rfl
@[simp] theorem State.clearModes_faultCause : (s.clearModes).faultCause = s.faultCause := rfl
@[simp] theorem State.clearModes_faultIndex : (s.clearModes).faultIndex = s.faultIndex := rfl
@[simp] theorem State.clearModes_inFreq : (s.clearModes).inFreq = s.inFreq := rfl
@[simp] theorem State.clearModes_pllCtl : (s.clearModes).pllCtl = s.pllCtl := rfl
@[simp] theorem State.clearModes_pllAcd : (s.clearModes).pllAcd = s.pllAcd := rfl
@[simp] theorem State.clearModes_fracInit : (s.clearModes).fracInit = s.fracInit := rfl
@[simp] theorem State.clearModes_expInc : (s.clearModes).expInc = s.expInc := rfl
@[simp] theorem State.clearModes_initCount : (s.clearModes).initCount = s.initCount := rfl
@[simp] theorem State.clearModes_kp : (s.clearModes).kp = s.kp := rfl
@[simp] theorem State.clearModes_ki : (s.clearModes).ki = s.ki := rfl
@[simp] theorem State.clearModes_kii : (s.clearModes).kii = s.kii := rfl
@[simp] theorem State.clearModes_lutSize : (s.clearModes).lutSize = s.lutSize := rfl
@[simp] theorem State.clearModes_lutAddr : (s.clearModes).lutAddr = s.lutAddr := rfl
@[simp] theorem State.clearModes_measCount : (s.clearModes).measCount = s.measCount := rfl
@[simp] theorem State.clearModes_periodFrac : (s.clearModes).periodFrac = s.periodFrac := rfl
@[simp] theorem State.clearModes_resError : (s.clearModes).resError = s.resError := rfl
@[simp] theorem State.clearModes_fracOut : (s.clearModes).fracOut = s.fracOut := rfl
@[simp] theorem State.clearModes_index : (s.clearModes).index = 0#32 := rfl
@[simp] theorem State.clearModes_setpoint : (s.clearModes).setpoint = 0#32 := rfl
@[simp] theorem State.clearModes_totalErr : (s.clearModes).totalErr = 0#32 := rfl
@[simp] theorem State.clearModes_prevCount : (s.clearModes).prevCount = s.prevCount := rfl
@[simp] theorem State.clearModes_acc : (s.clearModes).acc = s.acc := rfl
@[simp] theorem State.clearModes_acc2 : (s.clearModes).acc2 = s.acc2 := rfl
@[simp] theorem State.clearModes_limitI : (s.clearModes).limitI = s.limitI := rfl
@[simp] theorem State.clearModes_limitII : (s.clearModes).limitII = s.limitII := rfl
@[simp] theorem State.clearModes_lut : (s.clearModes).lut = s.lut := rfl
@[simp] theorem State.clearModes_pending : (s.clearModes).pending = s.pending := rfl
@[simp] theorem State.clearModes_response : (s.clearModes).response = s.response := rfl

end clearModesFields

section storeLutDataFields

@[simp] theorem State.storeLutData_params (v : Word) : (s.storeLutData v).params = s.params := rfl
@[simp] theorem State.storeLutData_cfgOk (v : Word) : (s.storeLutData v).cfgOk = s.cfgOk := rfl
@[simp] theorem State.storeLutData_ready (v : Word) : (s.storeLutData v).ready = s.ready := rfl
@[simp] theorem State.storeLutData_run (v : Word) : (s.storeLutData v).run = s.run := rfl
@[simp] theorem State.storeLutData_fault (v : Word) : (s.storeLutData v).fault = s.fault := rfl
@[simp] theorem State.storeLutData_lock (v : Word) : (s.storeLutData v).lock = s.lock := rfl
@[simp] theorem State.storeLutData_accSat (v : Word) : (s.storeLutData v).accSat = s.accSat := rfl
@[simp] theorem State.storeLutData_acc2Sat (v : Word) : (s.storeLutData v).acc2Sat = s.acc2Sat := rfl
@[simp] theorem State.storeLutData_cmdErr (v : Word) : (s.storeLutData v).cmdErr = s.cmdErr := rfl
@[simp] theorem State.storeLutData_wrIgn (v : Word) : (s.storeLutData v).wrIgn = s.wrIgn := rfl
@[simp] theorem State.storeLutData_faultCause (v : Word) : (s.storeLutData v).faultCause = s.faultCause := rfl
@[simp] theorem State.storeLutData_faultIndex (v : Word) : (s.storeLutData v).faultIndex = s.faultIndex := rfl
@[simp] theorem State.storeLutData_inFreq (v : Word) : (s.storeLutData v).inFreq = s.inFreq := rfl
@[simp] theorem State.storeLutData_pllCtl (v : Word) : (s.storeLutData v).pllCtl = s.pllCtl := rfl
@[simp] theorem State.storeLutData_pllAcd (v : Word) : (s.storeLutData v).pllAcd = s.pllAcd := rfl
@[simp] theorem State.storeLutData_fracInit (v : Word) : (s.storeLutData v).fracInit = s.fracInit := rfl
@[simp] theorem State.storeLutData_expInc (v : Word) : (s.storeLutData v).expInc = s.expInc := rfl
@[simp] theorem State.storeLutData_initCount (v : Word) : (s.storeLutData v).initCount = s.initCount := rfl
@[simp] theorem State.storeLutData_kp (v : Word) : (s.storeLutData v).kp = s.kp := rfl
@[simp] theorem State.storeLutData_ki (v : Word) : (s.storeLutData v).ki = s.ki := rfl
@[simp] theorem State.storeLutData_kii (v : Word) : (s.storeLutData v).kii = s.kii := rfl
@[simp] theorem State.storeLutData_lutSize (v : Word) : (s.storeLutData v).lutSize = s.lutSize := rfl
@[simp] theorem State.storeLutData_lutAddr (v : Word) : (s.storeLutData v).lutAddr = BitVec.ofNat 32 ((s.lutPointer + 1) % s.params.lutMax) := rfl
@[simp] theorem State.storeLutData_measCount (v : Word) : (s.storeLutData v).measCount = s.measCount := rfl
@[simp] theorem State.storeLutData_periodFrac (v : Word) : (s.storeLutData v).periodFrac = s.periodFrac := rfl
@[simp] theorem State.storeLutData_resError (v : Word) : (s.storeLutData v).resError = s.resError := rfl
@[simp] theorem State.storeLutData_fracOut (v : Word) : (s.storeLutData v).fracOut = s.fracOut := rfl
@[simp] theorem State.storeLutData_index (v : Word) : (s.storeLutData v).index = s.index := rfl
@[simp] theorem State.storeLutData_setpoint (v : Word) : (s.storeLutData v).setpoint = s.setpoint := rfl
@[simp] theorem State.storeLutData_totalErr (v : Word) : (s.storeLutData v).totalErr = s.totalErr := rfl
@[simp] theorem State.storeLutData_prevCount (v : Word) : (s.storeLutData v).prevCount = s.prevCount := rfl
@[simp] theorem State.storeLutData_acc (v : Word) : (s.storeLutData v).acc = s.acc := rfl
@[simp] theorem State.storeLutData_acc2 (v : Word) : (s.storeLutData v).acc2 = s.acc2 := rfl
@[simp] theorem State.storeLutData_limitI (v : Word) : (s.storeLutData v).limitI = s.limitI := rfl
@[simp] theorem State.storeLutData_limitII (v : Word) : (s.storeLutData v).limitII = s.limitII := rfl
@[simp] theorem State.storeLutData_lut (v : Word) : (s.storeLutData v).lut = s.lut.setWord s.lutPointer (v.extractLsb' 0 16) := rfl
@[simp] theorem State.storeLutData_pending (v : Word) : (s.storeLutData v).pending = s.pending := rfl
@[simp] theorem State.storeLutData_response (v : Word) : (s.storeLutData v).response = s.response := rfl

end storeLutDataFields

section withEventsFields

@[simp] theorem State.withEvents_params (es : List HostEvent) : (s.withEvents es).params = s.params := rfl
@[simp] theorem State.withEvents_cfgOk (es : List HostEvent) : (s.withEvents es).cfgOk = s.cfgOk := rfl
@[simp] theorem State.withEvents_ready (es : List HostEvent) : (s.withEvents es).ready = s.ready := rfl
@[simp] theorem State.withEvents_run (es : List HostEvent) : (s.withEvents es).run = s.run := rfl
@[simp] theorem State.withEvents_fault (es : List HostEvent) : (s.withEvents es).fault = s.fault := rfl
@[simp] theorem State.withEvents_lock (es : List HostEvent) : (s.withEvents es).lock = s.lock := rfl
@[simp] theorem State.withEvents_accSat (es : List HostEvent) : (s.withEvents es).accSat = s.accSat := rfl
@[simp] theorem State.withEvents_acc2Sat (es : List HostEvent) : (s.withEvents es).acc2Sat = s.acc2Sat := rfl
@[simp] theorem State.withEvents_cmdErr (es : List HostEvent) : (s.withEvents es).cmdErr = s.cmdErr := rfl
@[simp] theorem State.withEvents_wrIgn (es : List HostEvent) : (s.withEvents es).wrIgn = s.wrIgn := rfl
@[simp] theorem State.withEvents_faultCause (es : List HostEvent) : (s.withEvents es).faultCause = s.faultCause := rfl
@[simp] theorem State.withEvents_faultIndex (es : List HostEvent) : (s.withEvents es).faultIndex = s.faultIndex := rfl
@[simp] theorem State.withEvents_inFreq (es : List HostEvent) : (s.withEvents es).inFreq = s.inFreq := rfl
@[simp] theorem State.withEvents_pllCtl (es : List HostEvent) : (s.withEvents es).pllCtl = s.pllCtl := rfl
@[simp] theorem State.withEvents_pllAcd (es : List HostEvent) : (s.withEvents es).pllAcd = s.pllAcd := rfl
@[simp] theorem State.withEvents_fracInit (es : List HostEvent) : (s.withEvents es).fracInit = s.fracInit := rfl
@[simp] theorem State.withEvents_expInc (es : List HostEvent) : (s.withEvents es).expInc = s.expInc := rfl
@[simp] theorem State.withEvents_initCount (es : List HostEvent) : (s.withEvents es).initCount = s.initCount := rfl
@[simp] theorem State.withEvents_kp (es : List HostEvent) : (s.withEvents es).kp = s.kp := rfl
@[simp] theorem State.withEvents_ki (es : List HostEvent) : (s.withEvents es).ki = s.ki := rfl
@[simp] theorem State.withEvents_kii (es : List HostEvent) : (s.withEvents es).kii = s.kii := rfl
@[simp] theorem State.withEvents_lutSize (es : List HostEvent) : (s.withEvents es).lutSize = s.lutSize := rfl
@[simp] theorem State.withEvents_lutAddr (es : List HostEvent) : (s.withEvents es).lutAddr = s.lutAddr := rfl
@[simp] theorem State.withEvents_measCount (es : List HostEvent) : (s.withEvents es).measCount = s.measCount := rfl
@[simp] theorem State.withEvents_periodFrac (es : List HostEvent) : (s.withEvents es).periodFrac = s.periodFrac := rfl
@[simp] theorem State.withEvents_resError (es : List HostEvent) : (s.withEvents es).resError = s.resError := rfl
@[simp] theorem State.withEvents_fracOut (es : List HostEvent) : (s.withEvents es).fracOut = s.fracOut := rfl
@[simp] theorem State.withEvents_index (es : List HostEvent) : (s.withEvents es).index = s.index := rfl
@[simp] theorem State.withEvents_setpoint (es : List HostEvent) : (s.withEvents es).setpoint = s.setpoint := rfl
@[simp] theorem State.withEvents_totalErr (es : List HostEvent) : (s.withEvents es).totalErr = s.totalErr := rfl
@[simp] theorem State.withEvents_prevCount (es : List HostEvent) : (s.withEvents es).prevCount = s.prevCount := rfl
@[simp] theorem State.withEvents_acc (es : List HostEvent) : (s.withEvents es).acc = s.acc := rfl
@[simp] theorem State.withEvents_acc2 (es : List HostEvent) : (s.withEvents es).acc2 = s.acc2 := rfl
@[simp] theorem State.withEvents_limitI (es : List HostEvent) : (s.withEvents es).limitI = s.limitI := rfl
@[simp] theorem State.withEvents_limitII (es : List HostEvent) : (s.withEvents es).limitII = s.limitII := rfl
@[simp] theorem State.withEvents_lut (es : List HostEvent) : (s.withEvents es).lut = s.lut := rfl
@[simp] theorem State.withEvents_pending (es : List HostEvent) : (s.withEvents es).pending = es ++ s.pending := rfl
@[simp] theorem State.withEvents_response (es : List HostEvent) : (s.withEvents es).response = s.response := rfl

end withEventsFields

section dequeueFields

@[simp] theorem State.dequeue_params (rest : List HostEvent) : (s.dequeue rest).params = s.params := rfl
@[simp] theorem State.dequeue_cfgOk (rest : List HostEvent) : (s.dequeue rest).cfgOk = s.cfgOk := rfl
@[simp] theorem State.dequeue_ready (rest : List HostEvent) : (s.dequeue rest).ready = s.ready := rfl
@[simp] theorem State.dequeue_run (rest : List HostEvent) : (s.dequeue rest).run = s.run := rfl
@[simp] theorem State.dequeue_fault (rest : List HostEvent) : (s.dequeue rest).fault = s.fault := rfl
@[simp] theorem State.dequeue_lock (rest : List HostEvent) : (s.dequeue rest).lock = s.lock := rfl
@[simp] theorem State.dequeue_accSat (rest : List HostEvent) : (s.dequeue rest).accSat = s.accSat := rfl
@[simp] theorem State.dequeue_acc2Sat (rest : List HostEvent) : (s.dequeue rest).acc2Sat = s.acc2Sat := rfl
@[simp] theorem State.dequeue_cmdErr (rest : List HostEvent) : (s.dequeue rest).cmdErr = s.cmdErr := rfl
@[simp] theorem State.dequeue_wrIgn (rest : List HostEvent) : (s.dequeue rest).wrIgn = s.wrIgn := rfl
@[simp] theorem State.dequeue_faultCause (rest : List HostEvent) : (s.dequeue rest).faultCause = s.faultCause := rfl
@[simp] theorem State.dequeue_faultIndex (rest : List HostEvent) : (s.dequeue rest).faultIndex = s.faultIndex := rfl
@[simp] theorem State.dequeue_inFreq (rest : List HostEvent) : (s.dequeue rest).inFreq = s.inFreq := rfl
@[simp] theorem State.dequeue_pllCtl (rest : List HostEvent) : (s.dequeue rest).pllCtl = s.pllCtl := rfl
@[simp] theorem State.dequeue_pllAcd (rest : List HostEvent) : (s.dequeue rest).pllAcd = s.pllAcd := rfl
@[simp] theorem State.dequeue_fracInit (rest : List HostEvent) : (s.dequeue rest).fracInit = s.fracInit := rfl
@[simp] theorem State.dequeue_expInc (rest : List HostEvent) : (s.dequeue rest).expInc = s.expInc := rfl
@[simp] theorem State.dequeue_initCount (rest : List HostEvent) : (s.dequeue rest).initCount = s.initCount := rfl
@[simp] theorem State.dequeue_kp (rest : List HostEvent) : (s.dequeue rest).kp = s.kp := rfl
@[simp] theorem State.dequeue_ki (rest : List HostEvent) : (s.dequeue rest).ki = s.ki := rfl
@[simp] theorem State.dequeue_kii (rest : List HostEvent) : (s.dequeue rest).kii = s.kii := rfl
@[simp] theorem State.dequeue_lutSize (rest : List HostEvent) : (s.dequeue rest).lutSize = s.lutSize := rfl
@[simp] theorem State.dequeue_lutAddr (rest : List HostEvent) : (s.dequeue rest).lutAddr = s.lutAddr := rfl
@[simp] theorem State.dequeue_measCount (rest : List HostEvent) : (s.dequeue rest).measCount = s.measCount := rfl
@[simp] theorem State.dequeue_periodFrac (rest : List HostEvent) : (s.dequeue rest).periodFrac = s.periodFrac := rfl
@[simp] theorem State.dequeue_resError (rest : List HostEvent) : (s.dequeue rest).resError = s.resError := rfl
@[simp] theorem State.dequeue_fracOut (rest : List HostEvent) : (s.dequeue rest).fracOut = s.fracOut := rfl
@[simp] theorem State.dequeue_index (rest : List HostEvent) : (s.dequeue rest).index = s.index := rfl
@[simp] theorem State.dequeue_setpoint (rest : List HostEvent) : (s.dequeue rest).setpoint = s.setpoint := rfl
@[simp] theorem State.dequeue_totalErr (rest : List HostEvent) : (s.dequeue rest).totalErr = s.totalErr := rfl
@[simp] theorem State.dequeue_prevCount (rest : List HostEvent) : (s.dequeue rest).prevCount = s.prevCount := rfl
@[simp] theorem State.dequeue_acc (rest : List HostEvent) : (s.dequeue rest).acc = s.acc := rfl
@[simp] theorem State.dequeue_acc2 (rest : List HostEvent) : (s.dequeue rest).acc2 = s.acc2 := rfl
@[simp] theorem State.dequeue_limitI (rest : List HostEvent) : (s.dequeue rest).limitI = s.limitI := rfl
@[simp] theorem State.dequeue_limitII (rest : List HostEvent) : (s.dequeue rest).limitII = s.limitII := rfl
@[simp] theorem State.dequeue_lut (rest : List HostEvent) : (s.dequeue rest).lut = s.lut := rfl
@[simp] theorem State.dequeue_pending (rest : List HostEvent) : (s.dequeue rest).pending = rest := rfl
@[simp] theorem State.dequeue_response (rest : List HostEvent) : (s.dequeue rest).response = s.response := rfl

end dequeueFields

section hardResetFields

@[simp] theorem State.hardReset_params : s.hardReset.params = s.params := rfl
@[simp] theorem State.hardReset_cfgOk : s.hardReset.cfgOk = false := rfl
@[simp] theorem State.hardReset_ready : s.hardReset.ready = false := rfl
@[simp] theorem State.hardReset_run : s.hardReset.run = false := rfl
@[simp] theorem State.hardReset_fault : s.hardReset.fault = false := rfl
@[simp] theorem State.hardReset_lock : s.hardReset.lock = .none := rfl
@[simp] theorem State.hardReset_accSat : s.hardReset.accSat = false := rfl
@[simp] theorem State.hardReset_acc2Sat : s.hardReset.acc2Sat = false := rfl
@[simp] theorem State.hardReset_cmdErr : s.hardReset.cmdErr = false := rfl
@[simp] theorem State.hardReset_wrIgn : s.hardReset.wrIgn = false := rfl
@[simp] theorem State.hardReset_faultCause : s.hardReset.faultCause = .none := rfl
@[simp] theorem State.hardReset_faultIndex : s.hardReset.faultIndex = 0#16 := rfl
@[simp] theorem State.hardReset_inFreq : s.hardReset.inFreq = 0#32 := rfl
@[simp] theorem State.hardReset_pllCtl : s.hardReset.pllCtl = 0#32 := rfl
@[simp] theorem State.hardReset_pllAcd : s.hardReset.pllAcd = 0#32 := rfl
@[simp] theorem State.hardReset_fracInit : s.hardReset.fracInit = 0#32 := rfl
@[simp] theorem State.hardReset_expInc : s.hardReset.expInc = 0#32 := rfl
@[simp] theorem State.hardReset_initCount : s.hardReset.initCount = 0#32 := rfl
@[simp] theorem State.hardReset_kp : s.hardReset.kp = 0#32 := rfl
@[simp] theorem State.hardReset_ki : s.hardReset.ki = 0#32 := rfl
@[simp] theorem State.hardReset_kii : s.hardReset.kii = 0#32 := rfl
@[simp] theorem State.hardReset_lutSize : s.hardReset.lutSize = 0#32 := rfl
@[simp] theorem State.hardReset_lutAddr : s.hardReset.lutAddr = 0#32 := rfl
@[simp] theorem State.hardReset_measCount : s.hardReset.measCount = 0#32 := rfl
@[simp] theorem State.hardReset_periodFrac : s.hardReset.periodFrac = 0x00010000#32 := rfl
@[simp] theorem State.hardReset_resError : s.hardReset.resError = 0#32 := rfl
@[simp] theorem State.hardReset_fracOut : s.hardReset.fracOut = 0#16 := rfl
@[simp] theorem State.hardReset_index : s.hardReset.index = 0#32 := rfl
@[simp] theorem State.hardReset_setpoint : s.hardReset.setpoint = 0#32 := rfl
@[simp] theorem State.hardReset_totalErr : s.hardReset.totalErr = 0#32 := rfl
@[simp] theorem State.hardReset_prevCount : s.hardReset.prevCount = 0#32 := rfl
@[simp] theorem State.hardReset_acc : s.hardReset.acc = 0#64 := rfl
@[simp] theorem State.hardReset_acc2 : s.hardReset.acc2 = 0#64 := rfl
@[simp] theorem State.hardReset_limitI : s.hardReset.limitI = 0#64 := rfl
@[simp] theorem State.hardReset_limitII : s.hardReset.limitII = 0#64 := rfl
@[simp] theorem State.hardReset_lut : s.hardReset.lut = [] := rfl
@[simp] theorem State.hardReset_pending : s.hardReset.pending = s.pending := rfl
@[simp] theorem State.hardReset_response : s.hardReset.response = .idle := rfl

end hardResetFields

section resetWithFields

@[simp] theorem State.resetWith_params (p : Params) : (State.resetWith p).params = p := rfl
@[simp] theorem State.resetWith_cfgOk (p : Params) : (State.resetWith p).cfgOk = false := rfl
@[simp] theorem State.resetWith_ready (p : Params) : (State.resetWith p).ready = false := rfl
@[simp] theorem State.resetWith_run (p : Params) : (State.resetWith p).run = false := rfl
@[simp] theorem State.resetWith_fault (p : Params) : (State.resetWith p).fault = false := rfl
@[simp] theorem State.resetWith_lock (p : Params) : (State.resetWith p).lock = .none := rfl
@[simp] theorem State.resetWith_accSat (p : Params) : (State.resetWith p).accSat = false := rfl
@[simp] theorem State.resetWith_acc2Sat (p : Params) : (State.resetWith p).acc2Sat = false := rfl
@[simp] theorem State.resetWith_cmdErr (p : Params) : (State.resetWith p).cmdErr = false := rfl
@[simp] theorem State.resetWith_wrIgn (p : Params) : (State.resetWith p).wrIgn = false := rfl
@[simp] theorem State.resetWith_faultCause (p : Params) : (State.resetWith p).faultCause = .none := rfl
@[simp] theorem State.resetWith_faultIndex (p : Params) : (State.resetWith p).faultIndex = 0#16 := rfl
@[simp] theorem State.resetWith_inFreq (p : Params) : (State.resetWith p).inFreq = 0#32 := rfl
@[simp] theorem State.resetWith_pllCtl (p : Params) : (State.resetWith p).pllCtl = 0#32 := rfl
@[simp] theorem State.resetWith_pllAcd (p : Params) : (State.resetWith p).pllAcd = 0#32 := rfl
@[simp] theorem State.resetWith_fracInit (p : Params) : (State.resetWith p).fracInit = 0#32 := rfl
@[simp] theorem State.resetWith_expInc (p : Params) : (State.resetWith p).expInc = 0#32 := rfl
@[simp] theorem State.resetWith_initCount (p : Params) : (State.resetWith p).initCount = 0#32 := rfl
@[simp] theorem State.resetWith_kp (p : Params) : (State.resetWith p).kp = 0#32 := rfl
@[simp] theorem State.resetWith_ki (p : Params) : (State.resetWith p).ki = 0#32 := rfl
@[simp] theorem State.resetWith_kii (p : Params) : (State.resetWith p).kii = 0#32 := rfl
@[simp] theorem State.resetWith_lutSize (p : Params) : (State.resetWith p).lutSize = 0#32 := rfl
@[simp] theorem State.resetWith_lutAddr (p : Params) : (State.resetWith p).lutAddr = 0#32 := rfl
@[simp] theorem State.resetWith_measCount (p : Params) : (State.resetWith p).measCount = 0#32 := rfl
@[simp] theorem State.resetWith_periodFrac (p : Params) : (State.resetWith p).periodFrac = 0x00010000#32 := rfl
@[simp] theorem State.resetWith_resError (p : Params) : (State.resetWith p).resError = 0#32 := rfl
@[simp] theorem State.resetWith_fracOut (p : Params) : (State.resetWith p).fracOut = 0#16 := rfl
@[simp] theorem State.resetWith_index (p : Params) : (State.resetWith p).index = 0#32 := rfl
@[simp] theorem State.resetWith_setpoint (p : Params) : (State.resetWith p).setpoint = 0#32 := rfl
@[simp] theorem State.resetWith_totalErr (p : Params) : (State.resetWith p).totalErr = 0#32 := rfl
@[simp] theorem State.resetWith_prevCount (p : Params) : (State.resetWith p).prevCount = 0#32 := rfl
@[simp] theorem State.resetWith_acc (p : Params) : (State.resetWith p).acc = 0#64 := rfl
@[simp] theorem State.resetWith_acc2 (p : Params) : (State.resetWith p).acc2 = 0#64 := rfl
@[simp] theorem State.resetWith_limitI (p : Params) : (State.resetWith p).limitI = 0#64 := rfl
@[simp] theorem State.resetWith_limitII (p : Params) : (State.resetWith p).limitII = 0#64 := rfl
@[simp] theorem State.resetWith_lut (p : Params) : (State.resetWith p).lut = [] := rfl
@[simp] theorem State.resetWith_pending (p : Params) : (State.resetWith p).pending = [] := rfl
@[simp] theorem State.resetWith_response (p : Params) : (State.resetWith p).response = .idle := rfl

end resetWithFields

end Sys2Proof.Machine
end

