-- ==== Sys2Proof/Laws/Memory.lean ====
section
/-! SUPPORT. The LUT memory: a read after a write, the bytes and words a write leaves alone, and the canonical form
that every memory operation keeps (log 4). -/

namespace Sys2Proof.Machine

/-- A byte reads back as written. -/
@[simp] theorem Memory.read_write_same (m : Memory) (x : Nat) (v : BitVec 8) : (m.write x v).read x = some v := by
  induction m with
  | nil => simp [Memory.write, Memory.read]
  | cons c m ih =>
    obtain ⟨a, b⟩ := c
    unfold Memory.write
    split
    · simp [Memory.read]
    · split
      · simp [Memory.read]
      · rename_i h1 h2
        simp [Memory.read, ih, Ne.symm h2]

/-- A byte write leaves every other byte alone. -/
theorem Memory.read_write_other (m : Memory) {x y : Nat} (v : BitVec 8) (h : y ≠ x) :
    (m.write x v).read y = m.read y := by
  induction m with
  | nil => simp [Memory.write, Memory.read, Ne.symm h]
  | cons c m ih =>
    obtain ⟨a, b⟩ := c
    unfold Memory.write
    split
    · simp [Memory.read, Ne.symm h]
    · split
      · rename_i h1 h2
        subst h2
        simp [Memory.read, Ne.symm h]
      · simp [Memory.read, ih]

/-- The cells of a written memory are the old ones and the written one. -/
theorem Memory.mem_write {m : Memory} {x : Nat} {v : BitVec 8} {c : Host.Cell} (h : c ∈ m.write x v) :
    c = (x, v) ∨ c ∈ m := by
  induction m with
  | nil => simp_all [Memory.write]
  | cons d m ih =>
    obtain ⟨a, b⟩ := d
    unfold Memory.write at h
    split at h
    · simp_all
    · split at h
      · simp_all
        tauto
      · simp_all
        tauto

/-- A byte write keeps the addresses strictly rising. -/
theorem Memory.write_wf {m : Memory} (x : Nat) (v : BitVec 8) (h : Memory.wf m) : Memory.wf (m.write x v) := by
  induction m with
  | nil => simp [Memory.write]
  | cons d m ih =>
    obtain ⟨a, b⟩ := d
    obtain ⟨hd, hm⟩ := List.pairwise_cons.mp h
    unfold Memory.write
    split
    · rename_i hx
      refine List.pairwise_cons.mpr ⟨?_, h⟩
      intro c hc
      rcases List.mem_cons.mp hc with rfl | hc
      · exact hx
      · exact lt_trans hx (hd c hc)
    · split
      · rename_i _ hx
        subst hx
        exact List.pairwise_cons.mpr ⟨hd, hm⟩
      · rename_i h1 h2
        refine List.pairwise_cons.mpr ⟨?_, ih hm⟩
        intro c hc
        rcases Memory.mem_write hc with rfl | hc
        · exact lt_of_le_of_ne (Nat.le_of_not_lt h1) (fun e => h2 e.symm)
        · exact hd c hc

/-- A listed byte reads as a value. -/
theorem Memory.read_isSome_of_mem {m : Memory} {c : Host.Cell} (h : c ∈ m) : (m.read c.1).isSome = true := by
  induction m with
  | nil => simp at h
  | cons d m ih =>
    obtain ⟨a, b⟩ := d
    by_cases hc : a = c.1
    · simp [Memory.read, hc]
    · rcases List.mem_cons.mp h with rfl | h
      · simp at hc
      · simp [Memory.read, hc, ih h]

/-- A byte that reads as a value is listed. -/
theorem Memory.mem_of_read {m : Memory} {x : Nat} {v : BitVec 8} (h : m.read x = some v) : (x, v) ∈ m := by
  induction m with
  | nil => simp [Memory.read] at h
  | cons d m ih =>
    obtain ⟨a, b⟩ := d
    unfold Memory.read at h
    split at h
    · simp_all
    · exact List.mem_cons_of_mem _ (ih h)

/-- The high byte and the low byte of a word make the word. -/
theorem half_bytes (w : Half) : (w.extractLsb' 8 8 ++ w.extractLsb' 0 8 : BitVec 16) = w := by
  ext i hi
  simp only [BitVec.getElem_append, BitVec.getElem_extractLsb', BitVec.getLsbD_eq_getElem?_getD]
  split
  · simp [hi]
  · have : 8 + (i - 8) = i := by omega
    simp [this, hi]

/-- A word reads back as written, and its written bit is set (20_memory.md R77). -/
@[simp] theorem Memory.word?_setWord_same (m : Memory) (i : Nat) (w : Half) : (m.setWord i w).word? i = some w := by
  have h : (m.setWord i w).read (lutByte i) = some (w.extractLsb' 0 8) := by
    rw [Memory.setWord, Memory.read_write_other _ _ (by omega), Memory.read_write_same]
  have h' : (m.setWord i w).read (lutByte i + 1) = some (w.extractLsb' 8 8) := by
    rw [Memory.setWord, Memory.read_write_same]
  simp only [Memory.word?, h, h', half_bytes]

/-- A word write leaves every byte outside the word alone. -/
theorem Memory.read_setWord_other (m : Memory) {i a : Nat} (w : Half) (h : a ≠ lutByte i) (h' : a ≠ lutByte i + 1) :
    (m.setWord i w).read a = m.read a := by
  rw [Memory.setWord, Memory.read_write_other _ _ h', Memory.read_write_other _ _ h]

/-- A word write leaves every other word and its written bit alone. -/
theorem Memory.word?_setWord_other (m : Memory) {i j : Nat} (w : Half) (h : j ≠ i) :
    (m.setWord i w).word? j = m.word? j := by
  unfold Memory.word?
  rw [Memory.read_setWord_other _ _ (by unfold lutByte; omega) (by unfold lutByte; omega),
    Memory.read_setWord_other _ _ (by unfold lutByte; omega) (by unfold lutByte; omega)]

/-- A word write keeps the canonical form. -/
theorem Memory.setWord_wf {m : Memory} (i : Nat) (w : Half) (h : Memory.wf m) : Memory.wf (m.setWord i w) :=
  Memory.write_wf _ _ (Memory.write_wf _ _ h)

/-- The cells of a memory after a word write are the old ones and the word's two. -/
theorem Memory.mem_setWord {m : Memory} {i : Nat} {w : Half} {c : Host.Cell} (h : c ∈ m.setWord i w) :
    c.1 = lutByte i ∨ c.1 = lutByte i + 1 ∨ c ∈ m := by
  rcases Memory.mem_write h with rfl | h
  · exact .inr (.inl rfl)
  · rcases Memory.mem_write h with rfl | h
    · exact .inl rfl
    · exact .inr (.inr h)

/-- The memory after reset has the canonical form. -/
theorem reset_memory_wf : Memory.wf State.reset.lut := List.Pairwise.nil

end Sys2Proof.Machine
end

