-- ==== Sys2Proof/Laws/Registers.lean ====
section
/-! SUPPORT. The register window: offsets name registers one to one, and what masks and fields come to as numbers. -/

namespace Sys2Proof.Machine

/-- The register at a register's own offset. -/
@[simp] theorem regAt?_offset (r : Reg) : regAt? r.offset = some r := by cases r <;> decide

/-- A register found at an offset has that offset. -/
theorem offset_of_regAt? {a : Offset} {r : Reg} (h : regAt? a = some r) : r.offset = a := by
  simpa [regAt?] using List.find?_some h

/-- An aligned 32-bit access at a register raises no bus error. -/
@[simp] theorem busError_offset (r : Reg) : busError r.offset 4 = false := by cases r <;> decide

/-- Only 32-bit accesses raise no bus error. -/
theorem size_of_no_busError {a : Offset} {n : Nat} (h : busError a n = false) : n = 4 := by
  simp [busError] at h
  exact h.1.1

/-- Every offset without a bus error names a register. -/
theorem exists_reg_of_no_busError {a : Offset} {n : Nat} (h : busError a n = false) : ∃ r, regAt? a = some r := by
  obtain rfl := size_of_no_busError h
  have key : ∀ x : Offset, busError x 4 = false → (regAt? x).isSome = true := by decide
  exact Option.isSome_iff_exists.mp (key a h)

/-- Two registers at one offset are one register. -/
theorem offset_injective {r r' : Reg} (h : r.offset = r'.offset) : r = r' := by
  have h₁ := regAt?_offset r
  rw [h, regAt?_offset] at h₁
  exact (Option.some.inj h₁).symm

/-- Every register is in the map. -/
theorem mem_all (r : Reg) : r ∈ Reg.all := by cases r <;> decide

/-- Keeping the low `k` bits is reducing modulo `2^k`. -/
@[simp] theorem keepLow_toNat (k : Nat) (w : Word) : (keepLow k w).toNat = w.toNat % 2 ^ k := by
  have hm : (fieldMask 0 k).toNat = if k < 32 then 2 ^ k - 1 else 2 ^ 32 - 1 := by
    simp only [fieldMask, pow_zero, mul_one, BitVec.toNat_ofNat]
    split
    · rename_i h
      have : 2 ^ k < 2 ^ 32 := Nat.pow_lt_pow_right (by omega) h
      exact Nat.mod_eq_of_lt (by omega)
    · rename_i h
      obtain ⟨j, rfl⟩ : ∃ j, k = 32 + j := ⟨k - 32, by omega⟩
      have hp : 0 < 2 ^ j := Nat.pos_of_ne_zero (by positivity)
      rw [pow_add]
      have : 2 ^ 32 * 2 ^ j - 1 = 2 ^ 32 * (2 ^ j - 1) + (2 ^ 32 - 1) := by
        obtain ⟨q, hq⟩ : ∃ q, 2 ^ j = q + 1 := ⟨2 ^ j - 1, by omega⟩
        rw [hq]
        omega
      rw [this]
      omega
  rw [keepLow, BitVec.toNat_and, hm]
  split
  · exact Nat.and_two_pow_sub_one_eq_mod _ _
  · rename_i h
    rw [Nat.and_two_pow_sub_one_eq_mod, Nat.mod_eq_of_lt w.isLt]
    have : 2 ^ 32 ≤ 2 ^ k := Nat.pow_le_pow_right (by omega) (by omega)
    exact (Nat.mod_eq_of_lt (lt_of_lt_of_le w.isLt this)).symm

/-- Keeping the low bits twice is keeping them once. -/
@[simp] theorem keepLow_keepLow (k : Nat) (w : Word) : keepLow k (keepLow k w) = keepLow k w := by
  simp only [keepLow, BitVec.and_assoc, BitVec.and_self]

/-- The mask of a whole register keeps every bit. -/
@[simp] theorem and_fullMask (w : Word) : w &&& fieldMask 0 32 = w := by
  have : fieldMask 0 32 = BitVec.allOnes 32 := by decide
  rw [this, BitVec.and_allOnes]

/-- A field as a number. -/
theorem field_eq (w : Word) (lo len : Nat) : field w lo len = w.toNat / 2 ^ lo % 2 ^ len := by
  simp [field, BitVec.extractLsb'_toNat, Nat.shiftRight_eq_div_pow]

/-- f of a pair as a number (30_encoding.md R105). -/
theorem pairF_eq (w : Half) : pairF w = w.toNat / 256 := by
  have := w.isLt
  simp only [pairF, BitVec.extractLsb'_toNat, Nat.shiftRight_eq_div_pow]
  omega

/-- p of a pair as a number (30_encoding.md R105). -/
theorem pairP_eq (w : Half) : pairP w = w.toNat % 256 := by
  simp [pairP, BitVec.extractLsb'_toNat]

/-- The pointer of the LUT port as a number. -/
theorem lutPointer_eq (s : State) : s.lutPointer = s.lutAddr.toNat % 2 ^ s.params.lutAW := keepLow_toNat _ _

/-- The size of the table as a number. -/
theorem tableSize_eq (s : State) : s.tableSize = s.lutSize.toNat % 2 ^ (s.params.lutAW + 1) := keepLow_toNat _ _

/-- A legal pointer is below `LUT_MAX`. -/
theorem lutPointer_lt (s : State) : s.lutPointer < s.params.lutMax := by
  rw [lutPointer_eq]
  exact Nat.mod_lt _ (by positivity)

end Sys2Proof.Machine
end

