-- ==== Sys2Proof/Laws/Ops.lean ====
section
/-! SUPPORT. What each shared operation can do, said once: the primitives of 00_scope.md R9, the frame of a command,
the checks of VALIDATE, BUILD and TICK, a host write, and a host event. -/

namespace Sys2Proof.Machine

/-- `sat_s` of at least one bit stores the clamped value (00_scope.md R9). -/
theorem satS_toInt (n : Nat) (v : Int) : (satS (n + 1) v).toInt = clamp v (-(2 ^ n)) (2 ^ n - 1) := by
  have hp : (0 : Int) < 2 ^ n := by positivity
  have h2 : (2 : Int) ^ (n + 1) = 2 * 2 ^ n := by rw [pow_succ]; ring
  have e : ((2 ^ n : Nat) : Int) = 2 ^ n := by push_cast; rfl
  simp only [satS, Nat.add_sub_cancel]
  have lo : -(2 ^ n : Int) ≤ clamp v (-(2 ^ n)) (2 ^ n - 1) := by unfold clamp; omega
  have hi : clamp v (-(2 ^ n)) (2 ^ n - 1) ≤ 2 ^ n - 1 := by unfold clamp; omega
  rw [BitVec.toInt_ofInt]
  apply Int.bmod_eq_of_le
  · push_cast
    omega
  · push_cast
    omega

/-- The frame of a command always answers a next state (44_command_control.md R264). -/
theorem State.command_eq (runs : Bool) (effect : State → State) (s : State) :
    s.command runs effect =
      .next (if s.fault = true then s else if runs = true then effect s else s.raiseCmdErr) := by
  unfold State.command
  split
  · rfl
  · split <;> rfl

/-- Whether a command's own precondition holds: the first line of its pseudocode (44_command_control.md R264). -/
def Instr.allowed (i : Instr) (s : State) : Bool :=
  match i with
  | .nop => true
  | .validate => !s.cfgOk
  | .build => s.cfgOk && !s.ready
  | .init => s.ready
  | .tick => s.run
  | .resolve => s.ready
  | .clear => true

/-- A command's effect once its precondition holds. -/
def Instr.effect (i : Instr) (s : State) : State :=
  match i with
  | .nop => s
  | .validate => s.validate
  | .build => s.build
  | .init => s.initController
  | .tick => s.tick
  | .resolve => s.resolveOperand
  | .clear => s.clearModes

/-- Everything `exec` can do: nothing in FAULTED, else `CmdErr` or the command's effect. -/
theorem exec_eq (i : Instr) (s : State) :
    exec i s =
      .next (if s.fault = true then s else if Instr.allowed i s = true then Instr.effect i s else s.raiseCmdErr) := by
  cases i <;> exact State.command_eq _ _ _

/-- VALIDATE takes its first failing check's fault, or passes (40_frequency_validator.md R146). -/
theorem State.validate_cases (s : State) :
    (∃ c, s.configFault? = some c ∧ s.validate = s.raiseFault c 0) ∨
    (s.configFault? = none ∧ s.validate = s.passValidate) := by
  unfold State.validate
  cases h : s.configFault? with
  | some c => exact .inl ⟨c, rfl, rfl⟩
  | none => exact .inr ⟨rfl, rfl⟩

/-- BUILD takes its first failing check's fault, or passes (41_lut.md R174). -/
theorem State.build_cases (s : State) :
    (∃ c i, s.tableFault? = some (c, i) ∧ s.build = s.raiseFault c i) ∨
    (s.tableFault? = none ∧ s.build = s.passBuild) := by
  unfold State.build
  cases h : s.tableFault? with
  | some q => exact .inl ⟨q.1, q.2, rfl, rfl⟩
  | none => exact .inr ⟨rfl, rfl⟩

/-- TICK takes `TICK_PF_ZERO`, or completes (43_controller.md R221). -/
theorem State.tick_cases (s : State) :
    (s.periodFrac = 0#32 ∧ s.tick = s.raiseFault .tickPfZero 0) ∨
    (s.periodFrac ≠ 0#32 ∧ s.tick = (s.integrate.resolve s.totalError).reloadPeriod) := by
  have h : s.periodRaw = 0 ↔ s.periodFrac = 0#32 := by
    unfold State.periodRaw
    rw [Int.natCast_eq_zero, ← BitVec.toNat_inj]
    rfl
  unfold State.tick
  by_cases hp : s.periodFrac = 0#32
  · exact .inl ⟨hp, by rw [if_pos (h.mpr hp)]⟩
  · exact .inr ⟨hp, by rw [if_neg (fun e => hp (h.mp e))]⟩

/-- The causes VALIDATE's checks give. -/
theorem State.configFault?_ne_none_cause {s : State} {c : FaultCause} (h : s.configFault? = some c) :
    c ≠ .none ∧ c.namesEntry = false := by
  unfold State.configFault? at h
  split at h
  · cases h
    decide
  · split at h
    · cases h
      decide
    · split at h
      · cases h
        decide
      · split at h
        · cases h
          decide
        · cases h

/-- VALIDATE's checks pass exactly when each of them does. -/
theorem State.configFault?_eq_none (s : State) :
    s.configFault? = none ↔
      s.fOk = true ∧ pairOk s.initPair = true ∧ s.vcoLoOk = true ∧ s.vcoHiOk = true := by
  unfold State.configFault?
  cases s.fOk <;> cases pairOk s.initPair <;> cases s.vcoLoOk <;> cases s.vcoHiOk <;> simp

/-- The checks of one entry, said as what a good entry is (41_lut.md R173). -/
theorem State.entryFault?_eq_none (s : State) (i : Nat) :
    s.entryFault? i = none ↔
      ∃ w, s.lut.word? i = some w ∧ pairOk w = true ∧ (1 ≤ i → termLe (s.lutWord (i - 1)) w = true) := by
  unfold State.entryFault?
  cases hw : s.lut.word? i with
  | none => simp
  | some w =>
    cases hp : pairOk w
    · simp [hp]
    · by_cases hi : 1 ≤ i
      · cases ht : termLe (s.lutWord (i - 1)) w <;> simp [hp, hi, ht]
      · simp [hp, hi]

/-- The cause one entry gives names that entry. -/
theorem State.entryFault?_cause {s : State} {i : Nat} {c : FaultCause} (h : s.entryFault? i = some c) :
    c.namesEntry = true := by
  unfold State.entryFault? at h
  split at h
  · cases h
    rfl
  · split at h
    · cases h
      rfl
    · split at h
      · cases h
        rfl
      · cases h

/-- The scan of entries `i` to `i + left − 1` finds nothing exactly when every one of them is good. -/
theorem State.scanEntries_eq_none (s : State) (left i : Nat) :
    s.scanEntries left i = none ↔ ∀ j, i ≤ j → j < i + left → s.entryFault? j = none := by
  induction left generalizing i with
  | zero => simp [State.scanEntries]; omega
  | succ n ih =>
    unfold State.scanEntries
    cases h : s.entryFault? i with
    | some c =>
      simp only [reduceCtorEq, false_iff, not_forall]
      exact ⟨i, le_refl i, by omega, by simp [h]⟩
    | none =>
      rw [ih]
      constructor
      · intro hall j hj hlt
        rcases Nat.eq_or_lt_of_le hj with rfl | hj
        · exact h
        · exact hall j hj (by omega)
      · intro hall j hj hlt
        exact hall j (by omega) (by omega)

/-- The scan reports the lowest failing entry and its first failing check (41_lut.md R173). -/
theorem State.scanEntries_eq_some (s : State) (left i : Nat) (c : FaultCause) (k : Nat) :
    s.scanEntries left i = some (c, k) ↔
      i ≤ k ∧ k < i + left ∧ s.entryFault? k = some c ∧ ∀ j, i ≤ j → j < k → s.entryFault? j = none := by
  induction left generalizing i with
  | zero => simp [State.scanEntries]; omega
  | succ n ih =>
    unfold State.scanEntries
    cases h : s.entryFault? i with
    | some c' =>
      constructor
      · intro e
        cases e
        exact ⟨le_refl _, by omega, h, fun j h₁ h₂ => by omega⟩
      · rintro ⟨h₁, h₂, h₃, h₄⟩
        rcases Nat.eq_or_lt_of_le h₁ with rfl | hlt
        · rw [h] at h₃
          cases h₃
          rfl
        · rw [h₄ i (le_refl i) hlt] at h
          cases h
    | none =>
      rw [ih]
      constructor
      · rintro ⟨h₁, h₂, h₃, h₄⟩
        refine ⟨by omega, by omega, h₃, fun j hj hlt => ?_⟩
        rcases Nat.eq_or_lt_of_le hj with rfl | hj
        · exact h
        · exact h₄ j hj hlt
      · rintro ⟨h₁, h₂, h₃, h₄⟩
        rcases Nat.eq_or_lt_of_le h₁ with rfl | hlt
        · rw [h] at h₃
          cases h₃
        · exact ⟨hlt, by omega, h₃, fun j hj hl => h₄ j (by omega) hl⟩

/-- BUILD's checks pass exactly on a table of legal size whose every entry is good (41_lut.md R172, R173). -/
theorem State.tableFault?_eq_none (s : State) :
    s.tableFault? = none ↔
      1 ≤ s.tableSize ∧ s.tableSize ≤ s.params.lutMax ∧ ∀ i, i < s.tableSize → s.entryFault? i = none := by
  unfold State.tableFault?
  split
  · simp only [reduceCtorEq, false_iff]
    omega
  · rw [State.scanEntries_eq_none]
    constructor
    · intro h
      exact ⟨by omega, by omega, fun i hi => h i (by omega) (by omega)⟩
    · rintro ⟨_, _, h⟩ j _ hj
      exact h j (by omega)

/-- BUILD's checks read the LUT, `LUT_SIZE` and the parameters, and nothing else (41_lut.md R174). -/
theorem State.tableFault?_congr {s t : State} (hlut : t.lut = s.lut) (hsize : t.lutSize = s.lutSize)
    (hparams : t.params = s.params) : t.tableFault? = s.tableFault? := by
  have entry : ∀ i, t.entryFault? i = s.entryFault? i := by
    intro i
    unfold State.entryFault? State.lutWord
    rw [hlut]
  have scan : ∀ left i, t.scanEntries left i = s.scanEntries left i := by
    intro left
    induction left with
    | zero => exact fun _ => rfl
    | succ n ih =>
      intro i
      unfold State.scanEntries
      rw [entry, ih]
  have size : t.tableSize = s.tableSize := by simp only [State.tableSize, hsize, hparams]
  unfold State.tableFault?
  rw [size, hparams, scan]

/-- A host write to a register other than `CMD`: silent, ignored, through the LUT port, or stored (20_memory.md R86). -/
theorem State.writeReg_cases (s : State) (r : Reg) (v : Word) :
    (r.lockClass? = none ∧ s.writeReg r v = s) ∨
    (∃ k, r.lockClass? = some k ∧ s.unlocked k = false ∧ s.writeReg r v = s.ignoreWrite) ∨
    (r = .lutData ∧ s.ready = false ∧ s.writeReg r v = s.storeLutData v) ∨
    (∃ k, r ≠ .lutData ∧ r.lockClass? = some k ∧ s.unlocked k = true ∧
      s.writeReg r v = s.storeReg r (v &&& r.mask s.params)) := by
  unfold State.writeReg
  cases hk : r.lockClass? with
  | none => exact .inl ⟨rfl, rfl⟩
  | some k =>
    cases hu : s.unlocked k
    · exact .inr (.inl ⟨k, rfl, hu, by simp [hu]⟩)
    · by_cases hr : r = .lutData
      · subst hr
        have hk' : k = .l := by
          simpa [Reg.lockClass?] using hk.symm
        subst hk'
        refine .inr (.inr (.inl ⟨rfl, by simpa [State.unlocked] using hu, by simp [hu]⟩))
      · exact .inr (.inr (.inr ⟨k, hr, rfl, hu, by simp [hu, hr]⟩))

/-- A word that decodes runs its command, with the write answered (30_encoding.md R100); in FAULTED too, where the
command has no effect. -/
theorem State.perform_command (s : State) {v : Word} {i : Instr} (h : decode v = .ok i) :
    s.perform (commandEvent v) = exec i (s.respond .writeOk) := by
  simp only [State.perform, commandEvent, State.memWrite, busError_offset, regAt?_offset, State.execute, h]
  cases hf : s.fault with
  | false => rfl
  | true =>
    rw [exec_eq, if_pos (show (s.respond .writeOk).fault = true from hf)]
    rfl

/-- A refused word raises `CmdErr` (30_encoding.md R101, R103). -/
theorem State.perform_refused (s : State) {v : Word} {d : DecodeError} (hf : s.fault = false)
    (h : decode v = .error d) : s.perform (commandEvent v) = .next (s.respond .writeOk).raiseCmdErr := by
  simp [State.perform, commandEvent, State.memWrite, State.execute, h, hf]

/-- In FAULTED a served write has no effect (60_exceptions.md R302). -/
theorem State.perform_write_faulted (s : State) {a : Offset} {v : Word} (hf : s.fault = true)
    (hb : busError a 4 = false) : s.perform (.write a 4 v) = .next (s.respond .writeOk) := by
  simp [State.perform, State.memWrite, hb, hf]

/-- A write to a register other than `CMD` (20_memory.md R86). -/
theorem State.perform_write (s : State) {r : Reg} {v : Word} (hf : s.fault = false) (hr : r ≠ .cmd) :
    s.perform (.write r.offset 4 v) = .next ((s.respond .writeOk).writeReg r v) := by
  simp only [State.perform, State.memWrite, busError_offset, hf, regAt?_offset]
  cases r <;> rfl

/-- A read of a register (20_memory.md R87). -/
theorem State.perform_read (s : State) (r : Reg) :
    s.perform (.read r.offset 4) = .next (s.respond (.readOk (s.readReg r))) := by
  simp [State.perform, State.memRead]

/-- An access with a bus error (60_exceptions.md R308). -/
theorem State.perform_busError (s : State) {a : Offset} {n : Nat} (v : Word) (hb : busError a n = true) :
    s.perform (.read a n) = .next (s.respond (.readError 0#32)) ∧
    s.perform (.write a n v) = .next (s.respond .writeError) := by
  simp [State.perform, State.memRead, State.memWrite, hb]

/-- Everything one host event can do; it always answers a next state. -/
theorem State.perform_cases (s : State) (e : HostEvent) :
    (∃ a n, e = .read a n ∧ s.perform e = .next (s.respond (s.memRead a n))) ∨
    (∃ a n v, e = .write a n v ∧ busError a n = true ∧ s.perform e = .next (s.respond .writeError)) ∨
    (∃ a v, e = .write a 4 v ∧ busError a 4 = false ∧ s.fault = true ∧ s.perform e = .next (s.respond .writeOk)) ∨
    (∃ v i, e = commandEvent v ∧ s.fault = false ∧ decode v = .ok i ∧
      s.perform e = exec i (s.respond .writeOk)) ∨
    (∃ v d, e = commandEvent v ∧ s.fault = false ∧ decode v = .error d ∧
      s.perform e = .next (s.respond .writeOk).raiseCmdErr) ∨
    (∃ r v, r ≠ .cmd ∧ e = .write r.offset 4 v ∧ s.fault = false ∧
      s.perform e = .next ((s.respond .writeOk).writeReg r v)) ∨
    (e = .reset ∧ s.perform e = .next s.hardReset) := by
  cases e with
  | read a n => exact .inl ⟨a, n, rfl, rfl⟩
  | reset => exact .inr (.inr (.inr (.inr (.inr (.inr ⟨rfl, rfl⟩)))))
  | write a n v =>
    cases hb : busError a n with
    | true => exact .inr (.inl ⟨a, n, v, rfl, hb, by simp [State.perform, State.memWrite, hb]⟩)
    | false =>
      obtain rfl := size_of_no_busError hb
      obtain ⟨r, hr⟩ := exists_reg_of_no_busError hb
      obtain rfl := offset_of_regAt? hr
      cases hf : s.fault with
      | true => exact .inr (.inr (.inl ⟨_, v, rfl, hb, rfl, s.perform_write_faulted hf hb⟩))
      | false =>
        by_cases hc : r = .cmd
        · subst hc
          cases hd : decode v with
          | ok i => exact .inr (.inr (.inr (.inl ⟨v, i, rfl, rfl, hd, s.perform_command hd⟩)))
          | error d => exact .inr (.inr (.inr (.inr (.inl ⟨v, d, rfl, rfl, hd, s.perform_refused hf hd⟩))))
        · exact .inr (.inr (.inr (.inr (.inr (.inl ⟨r, v, hc, rfl, rfl, s.perform_write hf hc⟩)))))

end Sys2Proof.Machine
end

