-- ==== Sys2Proof/Laws/PerInstr.lean ====
section
/-! SUPPORT. A statement about every instruction as syntax, one lemma per constructor: the encoder writes a well-formed
command word for it (30_encoding.md R101, R102). -/

namespace Sys2Proof.Laws

/-- The word the encoder writes for `i` has zero reserved bits and an assigned OP code below 7. -/
def EncodedWord.Statement (i : Instr) : Prop :=
  reservedBitsZero (encode i) = true ∧ opAssigned (encode i) = true ∧ (encode i).toNat < 7

theorem EncodedWord.nop : EncodedWord.Statement .nop := by unfold EncodedWord.Statement; decide

theorem EncodedWord.validate : EncodedWord.Statement .validate := by unfold EncodedWord.Statement; decide

theorem EncodedWord.build : EncodedWord.Statement .build := by unfold EncodedWord.Statement; decide

theorem EncodedWord.init : EncodedWord.Statement .init := by unfold EncodedWord.Statement; decide

theorem EncodedWord.tick : EncodedWord.Statement .tick := by unfold EncodedWord.Statement; decide

theorem EncodedWord.resolve : EncodedWord.Statement .resolve := by unfold EncodedWord.Statement; decide

theorem EncodedWord.clear : EncodedWord.Statement .clear := by unfold EncodedWord.Statement; decide

end Sys2Proof.Laws
end

