-- ==== Sys2Proof/Laws/Runs.lean ====
section
/-! SUPPORT. Runs of host events: what an empty run, a longer run and two runs one after the other do, and the
induction over a run, packaged once. -/

namespace Sys2Proof.Machine

/-- No event, no change. -/
@[simp] theorem State.runEvents_nil (s : State) : s.runEvents [] = .next s := rfl

/-- The first event, then the others. -/
theorem State.runEvents_cons {s t : State} {e : HostEvent} (es : List HostEvent) (h : s.perform e = .next t) :
    s.runEvents (e :: es) = t.runEvents es := by
  simp [State.runEvents, h]

/-- A run that answers a next state did so event by event. -/
theorem State.runEvents_cons_next {s u : State} {e : HostEvent} {es : List HostEvent}
    (h : s.runEvents (e :: es) = .next u) : ∃ t, s.perform e = .next t ∧ t.runEvents es = .next u := by
  unfold State.runEvents at h
  split at h
  · exact ⟨_, ‹_›, h⟩
  · cases h
  · cases h

/-- One run after another. -/
theorem State.runEvents_append {s t : State} {es : List HostEvent} (fs : List HostEvent)
    (h : s.runEvents es = .next t) : s.runEvents (es ++ fs) = t.runEvents fs := by
  induction es generalizing s with
  | nil =>
    cases h
    rfl
  | cons e es ih =>
    obtain ⟨u, hu, hs⟩ := State.runEvents_cons_next h
    rw [List.cons_append, State.runEvents_cons _ hu, ih hs]

/-- What every event of a run keeps, the run keeps. -/
theorem State.runEvents_keeps {Q : HostEvent → Prop} {P : State → Prop}
    (keeps : ∀ s t e, Q e → P s → s.perform e = .next t → P t) :
    ∀ (es : List HostEvent) (s t : State), (∀ e ∈ es, Q e) → P s → s.runEvents es = .next t → P t := by
  intro es
  induction es with
  | nil =>
    intro s t _ hp h
    cases h
    exact hp
  | cons e es ih =>
    intro s t hq hp h
    obtain ⟨u, hu, hs⟩ := State.runEvents_cons_next h
    exact ih u t (fun e' he' => hq e' (List.mem_cons_of_mem _ he'))
      (keeps s u e (hq e List.mem_cons_self) hp hu) hs

end Sys2Proof.Machine
end

