-- ==== Sys2Proof/Tests/Slice0.lean ====
section
/-! SUPPORT. The model's own tests: the checks of WellFormed refuse ill-formed terms, every command's word decodes, one
step of each command against the vectors of spec/95_test_vectors.md, and for every obligation with hypotheses a concrete
state that meets them. -/

namespace Sys2Proof.Tests

open Sys2Proof Sys2Proof.Machine

/-! ### WellFormed refuses ill-formed terms -/

/-- Each bound of 00_scope.md R5, just outside and at its ends. -/
theorem test_params_wf :
    [Params.mk 0 12 8, ⟨33, 12, 8⟩, ⟨16, 0, 8⟩, ⟨16, 16, 8⟩, ⟨16, 12, 0⟩, ⟨16, 12, 13⟩].map Params.wf =
      [false, false, false, false, false, false] ∧
    [Params.mk 1 1 1, ⟨32, 15, 12⟩, Params.bracketed].map Params.wf = [true, true, true] := by decide

/-- A word with a reserved bit, or with a reserved OP, is no command (30_encoding.md R101, R103). -/
theorem test_command_word_wf :
    reservedBitsZero 0x00000010#32 = false ∧ reservedBitsZero 0x80000001#32 = false ∧
    opAssigned 0x00000007#32 = false ∧ opAssigned 0x0000000F#32 = false ∧
    commandWordWf 0x00000007#32 = false ∧ commandWordWf 0x00000010#32 = false ∧
    commandWordWf 0x00000006#32 = true ∧ Instr.wf .tick = true := by decide

/-- Wrong size, misaligned, and above 0x98 (20_memory.md R72, R74). -/
theorem test_access_wf :
    accessWf 0x04#8 2 = false ∧ accessWf 0x06#8 4 = false ∧ accessWf 0x9C#8 4 = false ∧ accessWf 0x98#8 4 = true ∧
    (HostEvent.write 0xFC#8 4 0#32).wf = false ∧ (HostEvent.read 0x08#8 1).wf = false ∧ HostEvent.reset.wf = true := by
  decide

/-! ### Decoding: each word written out from 30_encoding.md R100 and R102 -/

theorem test_decode_nop : decode 0b00000000000000000000000000000000#32 = .ok .nop := by decide

theorem test_decode_validate : decode 0b00000000000000000000000000000001#32 = .ok .validate := by decide

theorem test_decode_build : decode 0b00000000000000000000000000000010#32 = .ok .build := by decide

theorem test_decode_init : decode 0b00000000000000000000000000000011#32 = .ok .init := by decide

theorem test_decode_tick : decode 0b00000000000000000000000000000100#32 = .ok .tick := by decide

theorem test_decode_resolve : decode 0b00000000000000000000000000000101#32 = .ok .resolve := by decide

theorem test_decode_clear : decode 0b00000000000000000000000000000110#32 = .ok .clear := by decide

/-- K2 to K5: refused words at both ends of each reserved range. -/
theorem test_decode_refuses :
    decode 0x00000007#32 = .error (.reservedOp 7#4) ∧ decode 0x0000000F#32 = .error (.reservedOp 15#4) ∧
    decode 0x00000010#32 = .error .reservedBits ∧ decode 0x80000001#32 = .error .reservedBits ∧
    decodeTableWord 32 4 = some .tick ∧ decodeTableWord 32 7 = none := by decide

/-! ### Small states, from the fixtures of 95_test_vectors.md section 0 -/

/-- CFG0 written in IDLE. -/
def cfg0 : State :=
  { State.reset with inFreq := 24000000#32, pllCtl := 0x04000065#32, pllAcd := 9#32, fracInit := 0x0104#32 }

/-- LUT5 as bytes: p at 2i, f at 2i + 1. -/
def lut5 : Memory :=
  [(0, 0x09#8), (1, 0x00#8), (2, 0x04#8), (3, 0x00#8), (4, 0x04#8), (5, 0x01#8), (6, 0x04#8), (7, 0x02#8),
    (8, 0x04#8), (9, 0x03#8)]

/-- CFG0 validated, with LUT5, its size and KI = 1.0 written. -/
def configured5 : State :=
  { cfg0 with cfgOk := true, fracOut := 0x0104#16, lutSize := 5#32, ki := 0x00010000#32, lut := lut5, lutAddr := 5#32 }

/-- LUT5 built. -/
def ready5 : State := { configured5 with ready := true, limitI := 0x0000000500000000#64 }

/-- RUN5. -/
def run5 : State := { ready5 with run := true, expInc := 1000#32 }

/-- LUT5 reloaded with the words 1/5, 2/5, 1/10 of vector B8. -/
def nonmono : State :=
  { configured5 with
    lutSize := 3#32
    lut := [(0, 0x04#8), (1, 0x00#8), (2, 0x04#8), (3, 0x01#8), (4, 0x09#8), (5, 0x00#8)] }

/-- The end state of program P3: FAULTED by BUILD. -/
def faulted : State := { nonmono with fault := true, faultCause := .lutNonmono, faultIndex := 2#16 }

/-- The next state of an event, or the state itself (no event stops). -/
def after (e : HostEvent) (s : State) : State :=
  match s.perform e with
  | .next t => t
  | .fault _ => s
  | .refused _ => s

/-- What the host reads from some registers. -/
def reads (rs : List Reg) (s : State) : List Word := rs.map s.readReg

/-! ### One step of each command against the spec's vectors -/

/-- Vectors X1 to X7, X9, X10. -/
theorem test_reset_reads :
    reads [.id, .status, .faultInfo, .periodFrac, .vcheck, .freqNumLo, .freqNumHi, .freqDen, .freqHz, .vcoHz,
      .params, .lutData, .cmd] State.reset =
    [0x53570001#32, 0x20#32, 0#32, 0x00010000#32, 0x26#32, 0#32, 0#32, 4#32, 0#32, 0#32, 0x00080C10#32, 0#32, 0#32] := by
  decide

/-- K1. -/
theorem test_nop_changes_nothing :
    after (commandOf .nop) State.reset = { State.reset with response := .writeOk } := by decide

/-- V1: the validator's outputs before VALIDATE and the state after it. -/
theorem test_validate_passes :
    reads [.vcheck, .freqNumLo, .freqNumHi, .freqDen, .freqHz, .vcoHz] cfg0 =
      [0x7F#32, 0xDC6C0000#32, 2#32, 1000#32, 12288000#32, 1224000000#32] ∧
    reads [.status, .fracOut, .faultInfo] (after (commandOf .validate) cfg0) = [0x21#32, 0x0104#32, 0#32] := by decide

/-- V20: one hertz below the smallest passing input, `CFG_VCO_LOW`. -/
theorem test_validate_faults_below_range :
    reads [.status, .fracOut, .faultInfo] (after (commandOf .validate) { cfg0 with inFreq := 7058823#32 }) =
      [0x28#32, 0#32, 3#32] := by decide

/-- B1. -/
theorem test_build_passes :
    reads [.status, .limitILo, .limitIHi, .limitIILo, .limitIIHi] (after (commandOf .build) configured5) =
      [0x23#32, 0#32, 5#32, 0#32, 0#32] := by decide

/-- B8: `LUT_NONMONO` at index 2, and no limit written. -/
theorem test_build_faults_on_decrease :
    reads [.status, .faultInfo, .limitIHi] (after (commandOf .build) nonmono) = [0x29#32, 0x00020008#32, 0#32] := by
  decide

/-- T18: INIT restarts a controller that had moved. -/
theorem test_init_restarts :
    reads [.status, .accHi, .accLo, .prevCount, .fracOut, .index, .setpoint, .totalErr]
      (after (commandOf .init)
        { run5 with
          acc := 0x50000#64, acc2 := 0xF0000#64, accSat := true, prevCount := 5005#32, fracOut := 0x0009#16
          lock := .unlockedLow, setpoint := 0xFFFFFFFD#32, totalErr := 5#32 }) =
      [0x27#32, 0#32, 0#32, 0#32, 0x0104#32, 0#32, 0#32, 0#32] := by decide

/-- T1. -/
theorem test_tick_one_count_fast :
    reads [.status, .accLo, .acc2Lo, .prevCount, .index, .setpoint, .totalErr, .fracOut, .freqHz]
      (after (commandOf .tick) { run5 with measCount := 1001#32 }) =
      [0x07#32, 0x10000#32, 0x10000#32, 1001#32, 1#32, 1#32, 1#32, 0x0004#32, 12264000#32] := by decide

/-- T15: both accumulators saturate, and the integral term is clamped. -/
theorem test_tick_saturates :
    reads [.status, .accHi, .accLo, .acc2Hi, .acc2Lo, .totalErr, .periodFrac]
      (after (commandOf .tick)
        { run5 with measCount := 1002#32, acc := 0x7FFFFFFFFFFF0000#64, acc2 := 0x7FFFFFFFFFFFFFFF#64 }) =
      [0xF7#32, 0x7FFFFFFF#32, 0xFFFFFFFF#32, 0x7FFFFFFF#32, 0xFFFFFFFF#32, 5#32, 0x00010000#32] := by decide

/-- M9: the most negative error, with a saturated set point. -/
theorem test_resolve_most_negative :
    reads [.status, .index, .fracOut, .setpoint, .totalErr, .freqHz]
      (after (commandOf .resolve) { run5 with resError := 0x80000000#32 }) =
      [0x17#32, 4#32, 0x0304#32, 0x7FFFFFFF#32, 0x80000000#32, 12336000#32] := by decide

/-- M7: the set point −1. -/
theorem test_resolve_below_table :
    reads [.status, .index, .fracOut, .setpoint, .totalErr]
      (after (commandOf .resolve) { run5 with resError := 3#32 }) =
      [0x37#32, 0#32, 0x0009#32, 0xFFFFFFFF#32, 3#32] := by decide

/-- K7. -/
theorem test_clear_keeps_lut_and_pair :
    let t := after (commandOf .clear)
      { run5 with cmdErr := true, lock := .locked, index := 1#32, setpoint := 1#32, totalErr := 1#32
                  fracOut := 0x0004#16 }
    reads [.status, .fracOut, .index, .setpoint, .totalErr] t = [0x20#32, 0x0004#32, 0#32, 0#32, 0#32] ∧ t.lut = lut5 := by
  decide

/-! ### Host accesses -/

/-- X13, X15 to X18: reserved bits are dropped. -/
theorem test_writes_drop_reserved_bits :
    (after (.write 0x14#8 4 0xFFFFFFFF#32) State.reset).readReg .pllCtl = 0x073F1FFF#32 ∧
    (after (.write 0x18#8 4 0xFFFFFFFF#32) State.reset).readReg .pllAcd = 0xFF#32 ∧
    (after (.write 0x24#8 4 0x00012345#32) State.reset).readReg .initCount = 0x2345#32 ∧
    (after (.write 0x34#8 4 0xFFFFFFFF#32) State.reset).readReg .lutSize = 0x1FFF#32 ∧
    (after (.write 0x38#8 4 0x1005#32) State.reset).readReg .lutAddr = 5#32 := by decide

/-- X19: the pointer wraps from 4095, and the word is written. -/
theorem test_lut_data_write_wraps :
    let t := after (.write 0x3C#8 4 0xABCD0104#32) { State.reset with lutAddr := 0xFFF#32 }
    t.lutAddr = 0#32 ∧ t.lut = [(8190, 0x04#8), (8191, 0x01#8)] ∧ t.lutWritten 4095 = true := by decide

/-- X21 to X25: bus errors. -/
theorem test_bus_errors :
    after (.read 0x9C#8 4) State.reset = { State.reset with response := .readError 0#32 } ∧
    after (.write 0xFC#8 4 5#32) State.reset = { State.reset with response := .writeError } ∧
    after (.write 0x06#8 4 5#32) State.reset = { State.reset with response := .writeError } ∧
    after (.write 0x04#8 2 1#32) State.reset = { State.reset with response := .writeError } ∧
    after (.read 0x08#8 1) State.reset = { State.reset with response := .readError 0#32 } := by decide

/-- P3: in FAULTED a write has no effect and sets no flag. -/
theorem test_faulted_ignores_writes :
    after (.write 0x10#8 4 5#32) faulted = { faulted with response := .writeOk } ∧
    after (commandOf .clear) faulted = { faulted with response := .writeOk } := by decide

/-! ### Witnesses: for every obligation with hypotheses, concrete states and operands that meet them -/

/-- RUN5 with the counts and errors of the vectors meets the invariant, and so do READY, CONFIGURED and FAULTED. -/
theorem witness_invariant_running : run5.Inv :=
  ⟨by decide, by decide, by decide, by decide, by decide, by decide, by decide, by decide⟩

theorem witness_invariant_ready : ready5.Inv :=
  ⟨by decide, by decide, by decide, by decide, by decide, by decide, by decide, by decide⟩

theorem witness_invariant_faulted : faulted.Inv :=
  ⟨by decide, by decide, by decide, by decide, by decide, by decide, by decide, by decide⟩

/-- RUN5 with an event waiting and a saturating positive error ahead. -/
def run5Waiting : State := { run5 with pending := [commandOf .tick], measCount := 1001#32 }

theorem witness_invariant_waiting : run5Waiting.Inv :=
  ⟨by decide, by decide, by decide, by decide, by decide, by decide, by decide, by decide⟩

/-- StepPerformsTheFirstWaitingEvent: both cases. -/
theorem witness_step_performs : run5.pending = [] ∧ run5Waiting.pending = commandOf .tick :: [] := by decide

/-- StepRunsTheDecodedCommand: a waiting command word, and a table word. -/
theorem witness_step_runs :
    run5Waiting.pending = .write 0x04#8 4 4#32 :: [] ∧ decode 4#32 = .ok .tick ∧ decodeTableWord 32 6 = some .clear := by
  decide

/-- RefusedWordSetsOnlyCommandError: both grounds, at the ends of their ranges (0x10, 0x7 and 0xF). -/
theorem witness_refused_word :
    State.reset.fault = false ∧ (0x10#32).toNat / 16 ≠ 0 ∧ 7 ≤ (0x7#32).toNat % 16 ∧ 7 ≤ (0xF#32).toNat % 16 ∧
    (0x7#32).toNat / 16 = 0 := by decide

/-- CommandsFollowThePreconditionTable: every mode has an ordered state, and a word with each refusal. -/
theorem witness_precondition_table :
    [State.reset, configured5, ready5, run5, faulted].map State.mode =
      [.idle, .configured, .ready, .running, .faulted] ∧
    (∀ s ∈ [State.reset, configured5, ready5, run5, faulted], s.modesOrdered) ∧
    Instr.runsIn .tick .running = true ∧ Instr.runsIn .tick .ready = false ∧
    decode 7#32 = .error (.reservedOp 7#4) := by decide

/-- ModeChangesOnlyByListedTransitions: an event that changes the mode, and reset. -/
theorem witness_mode_changes :
    configured5.modesOrdered ∧ configured5.perform (commandOf .build) = .next (after (commandOf .build) configured5) ∧
    (after (commandOf .build) configured5).mode = .ready ∧
    faulted.modesOrdered ∧ faulted.perform .reset = .next (after .reset faulted) := ⟨by decide, rfl, by decide, by decide, rfl⟩

/-- NopLeavesEverything: a word with OP 0 that is no NOP. -/
theorem witness_nop : State.reset.fault = false ∧ (0x10#32).toNat % 16 = 0 ∧ (0x10#32).toNat / 16 ≠ 0 := by decide

/-- ClearReturnsToIdle: both cases. -/
theorem witness_clear : run5.fault = false ∧ faulted.fault = true := by decide

/-- ValidateChecksThenLocks, ValidateFaultsExactlyWhenAllOkReadsZero: IDLE and a validated block; each failing check
alone, and both ends of the VCO range (V2, V4). -/
theorem witness_validate :
    cfg0.fault = false ∧ cfg0.cfgOk = false ∧ cfg0.mode = .idle ∧ configured5.fault = false ∧ configured5.cfgOk = true ∧
    [{ cfg0 with pllCtl := 0x04000000#32 }, { cfg0 with fracInit := 0x0404#32 }, { cfg0 with pllCtl := 0x0400001C#32 },
      { cfg0 with pllCtl := 0x04000096#32 }, { cfg0 with pllCtl := 0x0400001D#32 },
      { cfg0 with pllCtl := 0x04000095#32 }].map State.configFault? =
      [some .cfgFRange, some .cfgFrac, some .cfgVcoLow, some .cfgVcoHigh, none, none] := by decide

/-- FrequencyOutputsAreExact, CombinationalOutputsAfterReset, IdentificationIsConstant, ResetMeetsTheInvariant: legal
parameters. -/
theorem witness_parameters : State.reset.params.wf = true ∧ (Params.mk 32 15 12).wf = true := by decide

/-- FrequencyIncreasesWithTheFractionalTerm: a positive input frequency, and pairs in both orders. -/
theorem witness_frequency_order :
    0 < cfg0.inFreq.toNat ∧
    (pairF 0x0009#16 + 1) * (pairP 0x0004#16 + 1) ≤ (pairF 0x0004#16 + 1) * (pairP 0x0009#16 + 1) ∧
    ¬(pairF 0x0004#16 + 1) * (pairP 0x0009#16 + 1) ≤ (pairF 0x0009#16 + 1) * (pairP 0x0004#16 + 1) := by decide

/-- ValidatedConfigurationStaysValid: a state that meets the invariant, and one reached in four accesses from reset. -/
theorem witness_validated :
    (run5.Inv ∧ run5.cfgOk = true) ∧
    ∃ s, Reachable Params.bracketed s ∧ s.cfgOk = true :=
  ⟨⟨witness_invariant_running, rfl⟩, _,
    .step (.step (.step (.step (.start [.write 0x10#8 4 24000000#32, .write 0x14#8 4 0x65#32, .write 0x1C#8 4 0x0104#32,
      commandOf .validate]) rfl) rfl) rfl) rfl, by decide⟩

/-- FaultEntryIsPrecise: each of the three commands that fault. -/
theorem witness_fault_entry :
    (∃ t, exec .validate State.reset = .next t ∧ State.reset.fault = false ∧ t.fault = true) ∧
    (∃ t, exec .build nonmono = .next t ∧ nonmono.fault = false ∧ t.fault = true) ∧
    (∃ t, exec .tick { run5 with periodFrac := 0#32 } = .next t ∧ run5.fault = false ∧ t.fault = true) :=
  ⟨⟨_, rfl, by decide, by decide⟩, ⟨_, rfl, by decide, by decide⟩, ⟨_, rfl, by decide, by decide⟩⟩

/-- FaultStateHoldsUntilReset: a faulted state and a run without a reset. -/
theorem witness_fault_state :
    faulted.fault = true ∧ HostEvent.reset ∉ [commandOf .clear, .write 0x10#8 4 5#32] ∧
    ∃ t, faulted.runEvents [commandOf .clear, .write 0x10#8 4 5#32] = .next t := ⟨by decide, by decide, _, rfl⟩

/-- BusErrorChangesNoState: each ground alone at the edge of its range, and the last served offset. -/
theorem witness_bus_error :
    (2 ≠ 4 ∧ (0x04#8).toNat % 4 = 0) ∧ (0x06#8).toNat % 4 ≠ 0 ∧ (0x9C#8).toNat % 4 = 0 ∧ 0x98 < (0x9C#8).toNat ∧
    (0x98#8).toNat % 4 = 0 ∧ (0x98#8).toNat ≤ 0x98 := by decide

/-- AlignedReadsReturnTheRegister: the first and the last register. -/
theorem witness_aligned_read : Reg.all[0]? = some .id ∧ Reg.all[38]? = some .params ∧ Reg.all[39]? = none := by decide

/-- AlignedReadsReturnTheRegister: the gains go by their own offsets (10_state.md section 2), written then read. -/
theorem test_gains_at_their_offsets :
    let s : State := { configured5 with kp := 1#32, ki := 2#32, kii := 3#32 }
    (s.memRead 0x28#8 4, s.memRead 0x2C#8 4, s.memRead 0x30#8 4) = (.readOk 1#32, .readOk 2#32, .readOk 3#32) ∧
    ∃ t, s.perform (.write 0x2C#8 4 9#32) = .next t ∧ (t.kp, t.ki, t.kii) = (1#32, 9#32, 3#32) :=
  ⟨by decide, _, rfl, by decide⟩

/-- ReadOnlyWritesHaveNoEffect and RepeatedRegisterWriteIsIdempotent: a read-only register, and a write that answers. -/
theorem witness_register_write :
    Reg.id ∈ [Reg.id, .status] ∧ Reg.expInc ≠ .cmd ∧ Reg.expInc ≠ .lutData ∧
    ∃ t, ready5.perform (.write Reg.expInc.offset 4 5#32) = .next t := ⟨by decide, by decide, by decide, _, rfl⟩

/-- RegisterWritesObeyTheLockClass: each class unlocked and locked. -/
theorem witness_lock_classes :
    (Reg.inFreq ∈ [Reg.inFreq, .pllCtl, .pllAcd, .fracInit] ∧ cfg0.cfgOk = false ∧ configured5.cfgOk = true) ∧
    (Reg.kp ∈ [Reg.kp, .ki, .kii, .lutSize] ∧ configured5.ready = false ∧ ready5.ready = true) ∧
    (Reg.expInc ∈ [Reg.expInc, .initCount] ∧ ready5.run = false ∧ run5.run = true) ∧
    Reg.lutAddr ∈ [Reg.lutAddr, .measCount, .periodFrac, .resError] ∧
    cfg0.fault = false ∧ configured5.fault = false ∧ ready5.fault = false ∧ run5.fault = false := by decide

/-- ReadsHaveNoSideEffect: a run of reads. -/
theorem witness_reads :
    (∀ e ∈ [HostEvent.read 0x3C#8 4, .read 0x9C#8 4], isRead e = true) ∧
    ∃ t, run5.runEvents [.read 0x3C#8 4, .read 0x9C#8 4] = .next t := ⟨by decide, _, rfl⟩

/-- HalvesReadWithoutCommandAreConsistent: a write between the halves that is neither a command nor of class C. -/
theorem witness_halves :
    (∀ e ∈ [HostEvent.write 0x40#8 4 7#32], writesReg .cmd e = false ∧ e ≠ .reset) ∧
    (∀ e ∈ [HostEvent.write 0x40#8 4 7#32], writesClassC e = false) ∧
    ∃ t, run5.runEvents [.write 0x40#8 4 7#32] = .next t := ⟨by decide, by decide, _, rfl⟩

/-- LutDataReadsTheWordAtThePointer: a written and an unwritten word under the pointer. -/
theorem witness_lut_read :
    ({ run5 with lutAddr := 4#32 }).lut.word? (4 % 2 ^ 12) = some 0x0304#16 ∧
    run5.lut.word? (run5.lutAddr.toNat % 2 ^ run5.params.lutAW) = none := by decide

/-- LutDataWritesTheWordAndAdvances, LutAddrStoresTheLowBits, LoadLutFillsConsecutiveEntries: an unlocked and a locked
LUT port, the last index, and a load that ends at `LUT_MAX`. -/
theorem witness_lut_write :
    configured5.params.wf = true ∧ configured5.fault = false ∧ configured5.ready = false ∧ ready5.ready = true ∧
    ready5.fault = false ∧ ({ configured5 with lutAddr := 0xFFF#32 }).lutPointer = 4095 ∧
    4094 + [0x0009#16, 0x0004#16].length ≤ 2 ^ configured5.params.lutAW ∧ [0x0009#16, 0x0004#16] ≠ [] := by decide

/-- Every entry of LUT5 is good, in CONFIGURED. -/
theorem witness_good_table :
    configured5.fault = false ∧ configured5.cfgOk = true ∧ configured5.ready = false ∧ configured5.tableSize = 5 ∧
    ∀ i, i < 5 → configured5.goodEntry i := by
  refine ⟨by decide, by decide, by decide, by decide, fun i hi => ?_⟩
  match i, hi with
  | 0, _ => exact ⟨0x0009#16, by decide, by decide, fun h => by omega⟩
  | 1, _ => exact ⟨0x0004#16, by decide, by decide, fun _ => ⟨0x0009#16, by decide, by decide⟩⟩
  | 2, _ => exact ⟨0x0104#16, by decide, by decide, fun _ => ⟨0x0004#16, by decide, by decide⟩⟩
  | 3, _ => exact ⟨0x0204#16, by decide, by decide, fun _ => ⟨0x0104#16, by decide, by decide⟩⟩
  | 4, _ => exact ⟨0x0304#16, by decide, by decide, fun _ => ⟨0x0204#16, by decide, by decide⟩⟩

/-- BuildPassesExactlyOnGoodTables, refused in IDLE and READY; BuildReportsTheFirstFailingCheck: sizes 0 and 4097, a hole
(B9), a bad fraction (B12) and a decrease (B8), each after good entries only. -/
theorem witness_bad_tables :
    (cfg0.fault = false ∧ cfg0.cfgOk = false) ∧ (ready5.fault = false ∧ ready5.ready = true) ∧
    ({ configured5 with lutSize := 0#32 }).tableFault? = some (.lutSize, 0) ∧
    ({ configured5 with lutSize := 4097#32 }).tableFault? = some (.lutSize, 0) ∧
    ({ configured5 with lut := lut5.take 6 }).tableFault? = some (.lutHole, 3) ∧
    ({ configured5 with lut := [(0, 0x09#8), (1, 0x00#8), (2, 0x05#8), (3, 0x05#8)] }).tableFault? = some (.lutFrac, 1) ∧
    nonmono.tableFault? = some (.lutNonmono, 2) := by decide

/-- WindupLimitsFitAndRoundDown, BuiltTableIsMonotonic: a BUILD that passes, with a gain that divides, a gain that does
not (B2) and the gain 0. -/
theorem witness_build_passes :
    configured5.params.wf = true ∧ configured5.fault = false ∧ configured5.cfgOk = true ∧ configured5.ready = false ∧
    (∃ t, exec .build configured5 = .next t ∧ t.ready = true ∧ t.limitI = 0x0000000500000000#64 ∧ t.limitII = 0#64) ∧
    (∃ t, exec .build { configured5 with ki := 0xC000#32 } = .next t ∧ t.ready = true ∧
      t.limitI = 0x00000006AAAAAAAA#64) :=
  ⟨by decide, by decide, by decide, by decide, ⟨_, rfl, by decide, by decide, by decide⟩, ⟨_, rfl, by decide, by decide⟩⟩

/-- TableIsFrozenWhileReady: a run with an ignored write of class L. -/
theorem witness_frozen :
    ready5.Inv ∧ ready5.ready = true ∧
    (∀ e ∈ [HostEvent.write 0x28#8 4 5#32], e ≠ .reset ∧ e ≠ commandOf .clear) ∧
    ∃ t, ready5.runEvents [.write 0x28#8 4 5#32] = .next t := ⟨witness_invariant_ready, rfl, by decide, _, rfl⟩

/-- ResolveSelectsTheClampedEntry, LargerErrorLowersTheFrequency, MidpointAndBoundariesOfTheMapper,
InitRestartsTheController: READY with the invariant and without, and set points at both edges of the table. -/
theorem witness_resolve :
    ready5.Inv ∧ ready5.fault = false ∧ ready5.ready = true ∧ configured5.fault = false ∧ configured5.ready = false ∧
    [ready5.setPointOf 3, ready5.setPointOf 2, ready5.setPointOf (-2), ready5.setPointOf (-3)] = [-1, 0, 4, 5] :=
  ⟨witness_invariant_ready, by decide, by decide, by decide, by decide, by decide⟩

/-- TickPerformsOneControlStep, TickFaultsOnlyOnZeroPeriod, CompletedTickReloadsPeriodFraction: a tick that runs, one
that faults, one that is refused. -/
theorem witness_tick :
    run5.Inv ∧ run5.fault = false ∧ run5.run = true ∧ run5.periodFrac ≠ 0#32 ∧
    ({ run5 with periodFrac := 0#32 }).fault = false ∧ ready5.fault = false ∧ ready5.run = false :=
  ⟨witness_invariant_running, by decide, by decide, by decide, by decide, by decide, by decide⟩

/-- CountDifferenceSurvivesWrap: T13 (wrapped) and the largest difference (T21). -/
theorem witness_count_difference :
    (1000 < 2 ^ run5.params.cntW ∧ (464 : Nat) % 2 ^ run5.params.cntW = (65000 + 1000) % 2 ^ run5.params.cntW) ∧
    (65535 < 2 ^ run5.params.cntW ∧ (999 : Nat) % 2 ^ run5.params.cntW = (1000 + 65535) % 2 ^ run5.params.cntW) := by
  decide

/-- DatapathSizesHoldEveryIntermediate: legal parameters and the limits BUILD gave. -/
theorem witness_datapath :
    run5.params.wf = true ∧ run5.periodFrac ≠ 0#32 ∧ run5.limitI.toNat ≤ 2 ^ 63 ∧ run5.limitII.toNat ≤ 2 ^ 63 := by decide

/-- SustainedErrorSaturatesTheIntegralTerm: one count fast and one count slow, and products past the limits. -/
theorem witness_sustained_error :
    run5.Inv ∧ run5.fault = false ∧ run5.run = true ∧ run5.periodFrac = 0x00010000#32 ∧
    (1001 ≠ run5.expInc.toNat ∧ 1001 < 2 ^ run5.params.cntW) ∧ (999 ≠ run5.expInc.toNat ∧ 999 < 2 ^ run5.params.cntW) ∧
    0 < run5.ki.toNat ∧ (run5.limitI.toNat : Int) ≤ run5.ki.toNat * (2 ^ 63 - 1) ∧
    (run5.limitI.toNat : Int) ≤ run5.ki.toNat * ({ run5 with acc := 0x50000#64, measCount := 1000#32 }).nextAcc.toInt :=
  ⟨witness_invariant_running, by decide, by decide, by decide, by decide, by decide, by decide, by decide, by decide⟩

/-- CommandsKeepWhatTheyDoNotWrite: every command answers a next state somewhere it has an effect. -/
theorem witness_command_frames :
    (∃ t, exec .nop run5 = .next t) ∧ (∃ t, exec .validate cfg0 = .next t ∧ t.cfgOk = true) ∧
    (∃ t, exec .build configured5 = .next t ∧ t.ready = true) ∧ (∃ t, exec .init ready5 = .next t ∧ t.run = true) ∧
    (∃ t, exec .tick run5 = .next t ∧ t.lock = .unlockedHigh) ∧ (∃ t, exec .resolve ready5 = .next t ∧ t.lock = .locked) ∧
    (∃ t, exec .clear run5 = .next t ∧ t.cfgOk = false) :=
  ⟨⟨_, rfl⟩, ⟨_, rfl, by decide⟩, ⟨_, rfl, by decide⟩, ⟨_, rfl, by decide⟩, ⟨_, rfl, by decide⟩, ⟨_, rfl, by decide⟩,
    ⟨_, rfl, by decide⟩⟩

/-- SaturationFlagsAreSticky: a tick that sets both flags, INIT that clears them, and the three ticks that do not
complete (refused by the mode, faulting, written in FAULTED) on an accumulator at its top. -/
theorem witness_saturation_flags :
    (∃ t, ({ run5 with acc := 0x7FFFFFFFFFFFFFFF#64, acc2 := 0x7FFFFFFFFFFFFFFF#64, measCount := 1001#32 }).perform
      (commandOf .tick) = .next t ∧ run5.fault = false ∧ run5.run = true ∧ run5.periodFrac ≠ 0#32 ∧
      t.accSat = true ∧ t.acc2Sat = true) ∧
    (∃ t, ({ run5 with accSat := true, acc2Sat := true }).perform (commandOf .init) = .next t ∧ run5.ready = true ∧
      t.accSat = false ∧ t.acc2Sat = false) ∧
    (∀ s ∈ [{ ready5 with acc := 0x7FFFFFFFFFFFFFFF#64, measCount := 1001#32 },
        { run5 with acc := 0x7FFFFFFFFFFFFFFF#64, measCount := 1001#32, periodFrac := 0#32 },
        { run5 with acc := 0x7FFFFFFFFFFFFFFF#64, measCount := 1001#32, fault := true }],
      ¬(s.fault = false ∧ s.run = true ∧ s.periodFrac ≠ 0#32) ∧
      ∃ t, s.perform (commandOf .tick) = .next t ∧ t.accSat = false) :=
  ⟨⟨_, rfl, by decide, by decide, by decide, by decide, by decide⟩, ⟨_, rfl, by decide, by decide, by decide⟩,
    by simp only [List.forall_mem_cons]
       exact ⟨⟨by decide, _, rfl, by decide⟩, ⟨by decide, _, rfl, by decide⟩, ⟨by decide, _, rfl, by decide⟩, by simp⟩⟩

/-- CommandErrorFlagIsSticky, WriteIgnoredFlagIsSticky: events that set and clear each flag. -/
theorem witness_interface_flags :
    ready5.modesOrdered ∧ ready5.cmdErr = false ∧ ready5.wrIgn = false ∧
    (∃ t, ready5.perform (commandOf .tick) = .next t ∧ t.cmdErr = true) ∧
    (∃ t, ready5.perform (.write 0x28#8 4 5#32) = .next t ∧ t.wrIgn = true) ∧
    (∃ t, ({ ready5 with cmdErr := true, wrIgn := true }).perform (commandOf .clear) = .next t ∧
      t.cmdErr = false ∧ t.wrIgn = false) :=
  ⟨by decide, by decide, by decide, ⟨_, rfl, by decide⟩, ⟨_, rfl, by decide⟩, ⟨_, rfl, by decide, by decide⟩⟩

/-- OutputSignalsFollowTheState: a resolution that changes the active pair. -/
theorem witness_output_change :
    ∃ t, ({ ready5 with resError := 1#32 }).perform (commandOf .resolve) = .next t ∧ t.fracO ≠ ready5.fracO :=
  ⟨_, rfl, by decide⟩

/-- PairLayoutRoundTrips: the largest fields. -/
theorem witness_pair_fields : 255 < 256 ∧ pairWord 255 255 = 0xFFFF#16 := by decide

/-- StepKeepsTheInvariant, StepKeepsTheMemoryCanonical, IdentificationIsConstant: a step from a state that meets the
invariant, with a tick ahead. -/
theorem witness_invariant_step :
    run5Waiting.Inv ∧ Memory.wf run5Waiting.lut ∧ ∃ t, step run5Waiting = .next t ∧ t.index = 1#32 :=
  ⟨witness_invariant_waiting, by decide, _, rfl, by decide⟩

end Sys2Proof.Tests
end

section
/-! The output signals (00_scope.md R14, 70_reset_and_hazards.md R352): what the host reads of them, and which events
change the active pair. -/

namespace Sys2Proof.Machine

/-- A word that fits `k` bits loses nothing to the mask of its low `k` bits. -/
theorem and_fieldMask_of_lt {k : Nat} {w : Word} (h : w.toNat < 2 ^ k) : w &&& fieldMask 0 k = w :=
  BitVec.eq_of_toNat_eq ((keepLow_toNat k w).trans (Nat.mod_eq_of_lt h))

@[simp] theorem State.readReg_status (s : State) : s.readReg .status = s.statusWord := and_fullMask _

@[simp] theorem State.readReg_fracOut (s : State) : s.readReg .fracOut = s.fracOut.setWidth 32 :=
  and_fieldMask_of_lt (by have := s.fracOut.isLt; simp only [State.regValue, BitVec.toNat_setWidth]; omega)

/-- `STATUS.LOCK` is `STATUS[5:4]` (10_state.md R23, R28): past the four mode flags. -/
theorem State.statusWord_lock (s : State) : s.statusWord.extractLsb' 4 2 = s.lock.code := by
  unfold State.statusWord
  iterate 4 rw [BitVec.extractLsb'_append_eq_of_le (by decide)]
  exact BitVec.extractLsb'_append_eq_right

/-- `STATUS.FAULT` is `STATUS[3]` (10_state.md R23, R27). -/
theorem State.statusWord_fault (s : State) : s.statusWord.getLsbD 3 = s.fault := by
  unfold State.statusWord
  iterate 4 rw [BitVec.getLsbD_append]
  simp [flagBit]

/-- A command word is the encoding of what it decodes to (30_encoding.md R102, R104). -/
theorem eq_encode_of_decode {w : Word} {i : Instr} (h : decode w = .ok i) : w = encode i := by
  have ofOp : ∀ op : BitVec 4, decodeOp op = .ok i → (0#28 ++ op : BitVec 32) = encode i := by cases i <;> decide
  have fields : (rsvdField w ++ opField w : BitVec 32) = w :=
    BitVec.extractLsb'_append_extractLsb' (w := 28) (len := 4)
  unfold decode at h
  split at h
  · cases h
  · rename_i hr
    rw [not_not.mp hr] at fields
    rw [← fields, ofOp _ h]

/-- A command's outcome by the frame it runs in (44_command_control.md R264). -/
theorem exec_next_cases {i : Instr} {s t : State} (h : exec i s = .next t) :
    (s.fault = true ∧ t = s) ∨
    (s.fault = false ∧ Instr.allowed i s = true ∧ t = Instr.effect i s) ∨
    (s.fault = false ∧ Instr.allowed i s = false ∧ t = s.raiseCmdErr) := by
  rw [exec_eq] at h
  obtain rfl := Host.Outcome.next.inj h
  cases hf : s.fault <;> cases ha : Instr.allowed i s <;> simp

/-- No command's precondition reads the block's last answer (log 3). -/
@[simp] theorem Instr.allowed_respond (i : Instr) (s : State) (r : Response) :
    Instr.allowed i (s.respond r) = Instr.allowed i s := by
  cases i <;> rfl

/-- No register write reaches the active pair: `FRAC_OUT` is read-only (10_state.md R48). -/
@[simp] theorem State.storeReg_fracOut (s : State) (r : Reg) (v : Word) : (s.storeReg r v).fracOut = s.fracOut := by
  cases r <;> rfl

@[simp] theorem State.writeReg_fracOut (s : State) (r : Reg) (v : Word) : (s.writeReg r v).fracOut = s.fracOut := by
  rcases s.writeReg_cases r v with ⟨_, h⟩ | ⟨_, _, _, h⟩ | ⟨_, _, h⟩ | ⟨_, _, _, _, h⟩ <;> simp [h]

/-- The commands whose effect can change the active pair; VALIDATE does so only by passing (10_state.md R48). -/
theorem Instr.effect_changes_fracOut {i : Instr} {s : State} (h : (Instr.effect i s).fracOut ≠ s.fracOut) :
    (i = .validate ∧ (Instr.effect i s).cfgOk = true) ∨ i = .init ∨ i = .tick ∨ i = .resolve := by
  cases i with
  | nop => exact absurd rfl h
  | validate =>
    rcases s.validate_cases with ⟨_, _, hv⟩ | ⟨_, hv⟩
    · exact absurd (congrArg State.fracOut hv) h
    · exact .inl ⟨rfl, congrArg State.cfgOk hv⟩
  | build =>
    rcases s.build_cases with ⟨_, _, _, hb⟩ | ⟨_, hb⟩ <;> exact absurd (congrArg State.fracOut hb) h
  | init => exact .inr (.inl rfl)
  | tick => exact .inr (.inr (.inl rfl))
  | resolve => exact .inr (.inr (.inr rfl))
  | clear => exact absurd rfl h

/-- A command that changes the active pair is a passing VALIDATE, or an INIT, TICK or RESOLVE, and its mode allows it
(10_state.md R48, 44_command_control.md R264). -/
theorem exec_changes_fracOut {i : Instr} {s t : State} (h : exec i s = .next t) (hne : t.fracOut ≠ s.fracOut) :
    Instr.allowed i s = true ∧ ((i = .validate ∧ t.cfgOk = true) ∨ i = .init ∨ i = .tick ∨ i = .resolve) := by
  rcases exec_next_cases h with ⟨_, rfl⟩ | ⟨_, ha, rfl⟩ | ⟨_, _, rfl⟩
  · exact absurd rfl hne
  · exact ⟨ha, Instr.effect_changes_fracOut hne⟩
  · exact absurd rfl hne

/-- An event that changes the active pair is reset, or the command of `exec_changes_fracOut` outside FAULTED. -/
theorem State.perform_changes_fracOut {s t : State} {e : HostEvent} (h : s.perform e = .next t)
    (hne : t.fracOut ≠ s.fracOut) :
    e = .reset ∨ ∃ i, e = commandOf i ∧ s.fault = false ∧ Instr.allowed i s = true ∧
      ((i = .validate ∧ t.cfgOk = true) ∨ i = .init ∨ i = .tick ∨ i = .resolve) := by
  have changes : ∀ {u : State}, s.perform e = .next u → u.fracOut = s.fracOut → False := fun hu heq =>
    hne (Host.Outcome.next.inj (h.symm.trans hu) ▸ heq)
  rcases s.perform_cases e with ⟨_, _, _, hp⟩ | ⟨_, _, _, _, _, hp⟩ | ⟨_, _, _, _, _, hp⟩ | ⟨v, i, he, hf, hd, hp⟩ |
    ⟨_, _, _, _, _, hp⟩ | ⟨r, v, _, _, _, hp⟩ | ⟨he, _⟩
  · exact (changes hp rfl).elim
  · exact (changes hp rfl).elim
  · exact (changes hp rfl).elim
  · obtain ⟨ha, hi⟩ := exec_changes_fracOut (hp.symm.trans h) hne
    obtain rfl := eq_encode_of_decode hd
    exact .inr ⟨i, he, hf, (Instr.allowed_respond i s _).symm.trans ha, hi⟩
  · exact (changes hp rfl).elim
  · exact (changes hp (State.writeReg_fracOut _ r v)).elim
  · exact .inl he

/-- Settles O51: the signals are read off their registers, and the change of `frac_o` is traced through the event's
outcome to the one command that made it. -/
theorem outputSignalsFollowTheState : Obligations.OutputSignalsFollowTheState := by
  refine ⟨fun s => ⟨s.readReg_fracOut, ?_, ?_⟩, fun s t e h hne => ?_⟩
  · rw [State.readReg_status, State.statusWord_lock, State.lockO]
  · rw [State.readReg_status, State.statusWord_fault, State.faultO]
  · obtain he | ⟨i, rfl, hf, ha, hi⟩ := State.perform_changes_fracOut h hne
    · exact .inl he
    · refine .inr ⟨hf, ?_⟩
      rcases hi with ⟨rfl, hc⟩ | rfl | rfl | rfl
      · exact .inl ⟨rfl, by simpa [Instr.allowed] using ha, hc⟩
      · exact .inr (.inl ⟨rfl, ha⟩)
      · exact .inr (.inr (.inl ⟨rfl, ha⟩))
      · exact .inr (.inr (.inr ⟨rfl, ha⟩))

end Sys2Proof.Machine
end

section
/-! Reset (10_state.md R66, R68): the reset state meets the invariant, and the waiting host events are no part of it. -/

namespace Sys2Proof.Machine

/-- No reset value has a reserved bit set (10_state.md R65, R66). -/
theorem State.resetWith_reservedZero (p : Params) : (State.resetWith p).reservedZero := by
  intro r _
  cases r <;> simp [State.readReg, State.regValue, Reg.mask, State.lutDataRead, Memory.word?, Memory.read]

/-- The reset state meets the invariant for legal parameters: it is in IDLE with an empty LUT and LOCK = NONE. -/
theorem State.resetWith_inv {p : Params} (hp : p.wf = true) : (State.resetWith p).Inv where
  paramsLegal := hp
  modes := by simp [State.modesOrdered]
  faults := by simp [State.faultRecorded]
  memory := by simp [State.lutOk]
  reserved := State.resetWith_reservedZero p
  config := by simp [State.configChecked]
  table := by simp [State.tableChecked]
  resolution := by simp [State.lockAgrees]

/-- The invariant says nothing of the host events still to come (log 2). -/
theorem State.Inv.withEvents {s : State} (h : s.Inv) (es : List HostEvent) : (s.withEvents es).Inv where
  paramsLegal := h.paramsLegal
  modes := h.modes
  faults := h.faults
  memory := h.memory
  reserved := h.reserved
  config := h.config
  table := fun hr =>
    let ⟨checked, limits⟩ := h.table hr
    ⟨(State.tableFault?_congr (s := s) (t := s.withEvents es) rfl rfl rfl).trans checked, limits⟩
  resolution := h.resolution

/-- Settles O58: reset meets the invariant, and events that wait are no part of it. -/
theorem resetMeetsTheInvariant : Obligations.ResetMeetsTheInvariant :=
  ⟨fun _ es hp => (State.resetWith_inv hp).withEvents es, State.resetWith_inv (by decide), rfl⟩

end Sys2Proof.Machine
end

section
/-! What one host event and one step can do, said once as an inversion (20_memory.md R79, R86, R87;
44_command_control.md R264), with what the shared operations leave unchanged. -/

namespace Sys2Proof.Machine

/-- How a host event ends, one constructor per ending. Only `ran`, `loaded`, `stored` and `wasReset` change more than
the answer and one sticky flag. -/
inductive State.Served (s : State) : HostEvent → State → Prop where
  /-- A read, a bus error, a write to a read-only register, or a write in FAULTED. -/
  | answered {e : HostEvent} (r : Response) (he : e ≠ .reset) : s.Served e (s.respond r)
  /-- A command in a mode that runs it. -/
  | ran {i : Instr} (hf : s.fault = false) (ha : Instr.allowed i s = true) :
      s.Served (commandOf i) (Instr.effect i (s.respond .writeOk))
  /-- A word that is no command, or a command in a mode that refuses it. -/
  | refused {v : Word} (hf : s.fault = false)
      (hv : (∃ d, decode v = .error d) ∨ ∃ i, decode v = .ok i ∧ Instr.allowed i s = false) :
      s.Served (commandEvent v) (s.respond .writeOk).raiseCmdErr
  /-- A write to a register whose class is locked. -/
  | ignored {r : Reg} {v : Word} {k : LockClass} (hf : s.fault = false) (hk : r.lockClass? = some k)
      (hl : s.unlocked k = false) : s.Served (.write r.offset 4 v) (s.respond .writeOk).ignoreWrite
  /-- A write through the LUT port. -/
  | loaded {v : Word} (hf : s.fault = false) (hr : s.ready = false) :
      s.Served (.write Reg.lutData.offset 4 v) ((s.respond .writeOk).storeLutData v)
  /-- A write to a plain register whose class is unlocked. -/
  | stored {r : Reg} {v : Word} {k : LockClass} (hf : s.fault = false) (hr : r ≠ .lutData)
      (hk : r.lockClass? = some k) (hu : s.unlocked k = true) :
      s.Served (.write r.offset 4 v) ((s.respond .writeOk).storeReg r (v &&& r.mask s.params))
  /-- Reset. -/
  | wasReset : s.Served .reset s.hardReset

/-- Every lock reads the mode flags alone, not the block's last answer (10_state.md R64). -/
@[simp] theorem State.unlocked_respond (s : State) (r : Response) (k : LockClass) :
    (s.respond r).unlocked k = s.unlocked k := by
  cases k <;> rfl

/-- An event's next state is one of the endings. -/
theorem State.served_of_perform {s t : State} {e : HostEvent} (h : s.perform e = .next t) : s.Served e t := by
  have out : ∀ {u : State}, s.perform e = .next u → t = u := fun hu => Host.Outcome.next.inj (h.symm.trans hu)
  rcases s.perform_cases e with ⟨_, _, rfl, hp⟩ | ⟨_, _, _, rfl, _, hp⟩ | ⟨_, _, rfl, _, _, hp⟩ |
    ⟨v, i, rfl, hf, hd, hp⟩ | ⟨v, d, rfl, hf, hd, hp⟩ | ⟨r, v, _, rfl, hf, hp⟩ | ⟨rfl, hp⟩
  · exact out hp ▸ .answered _ (by simp)
  · exact out hp ▸ .answered _ (by simp)
  · exact out hp ▸ .answered _ (by simp)
  · rcases exec_next_cases (hp.symm.trans h) with ⟨hft, _⟩ | ⟨_, ha, rfl⟩ | ⟨_, ha, rfl⟩
    · exact absurd (hf.symm.trans hft) (by decide)
    · obtain rfl := eq_encode_of_decode hd
      exact .ran hf (by simpa using ha)
    · exact .refused hf (.inr ⟨i, hd, by simpa using ha⟩)
  · exact out hp ▸ .refused hf (.inl ⟨d, hd⟩)
  · rw [out hp]
    rcases (s.respond .writeOk).writeReg_cases r v with
      ⟨_, hw⟩ | ⟨k, hk, hl, hw⟩ | ⟨rfl, hr, hw⟩ | ⟨k, hr, hk, hu, hw⟩ <;> rw [hw]
    · exact .answered _ (by simp)
    · exact .ignored hf hk (by simpa using hl)
    · exact .loaded hf hr
    · exact .stored hf hr hk (by simpa using hu)
  · exact out hp ▸ .wasReset

/-- A step waits, or performs the first waiting event (20_memory.md R79). -/
theorem step_next_cases {s t : State} (h : step s = .next t) :
    t = s ∨ ∃ e rest, (s.dequeue rest).Served e t := by
  unfold step State.serve at h
  split at h
  · exact .inl (Host.Outcome.next.inj h).symm
  · exact .inr ⟨_, _, State.served_of_perform h⟩

/-! What a plain register write leaves unchanged. -/

section storeRegFields

variable (s : State) (r : Reg) (v : Word)

@[simp] theorem State.storeReg_params : (s.storeReg r v).params = s.params := by cases r <;> rfl
@[simp] theorem State.storeReg_cfgOk : (s.storeReg r v).cfgOk = s.cfgOk := by cases r <;> rfl
@[simp] theorem State.storeReg_ready : (s.storeReg r v).ready = s.ready := by cases r <;> rfl
@[simp] theorem State.storeReg_run : (s.storeReg r v).run = s.run := by cases r <;> rfl
@[simp] theorem State.storeReg_fault : (s.storeReg r v).fault = s.fault := by cases r <;> rfl
@[simp] theorem State.storeReg_lock : (s.storeReg r v).lock = s.lock := by cases r <;> rfl
@[simp] theorem State.storeReg_accSat : (s.storeReg r v).accSat = s.accSat := by cases r <;> rfl
@[simp] theorem State.storeReg_acc2Sat : (s.storeReg r v).acc2Sat = s.acc2Sat := by cases r <;> rfl
@[simp] theorem State.storeReg_cmdErr : (s.storeReg r v).cmdErr = s.cmdErr := by cases r <;> rfl
@[simp] theorem State.storeReg_wrIgn : (s.storeReg r v).wrIgn = s.wrIgn := by cases r <;> rfl
@[simp] theorem State.storeReg_faultCause : (s.storeReg r v).faultCause = s.faultCause := by cases r <;> rfl
@[simp] theorem State.storeReg_faultIndex : (s.storeReg r v).faultIndex = s.faultIndex := by cases r <;> rfl
@[simp] theorem State.storeReg_index : (s.storeReg r v).index = s.index := by cases r <;> rfl
@[simp] theorem State.storeReg_setpoint : (s.storeReg r v).setpoint = s.setpoint := by cases r <;> rfl
@[simp] theorem State.storeReg_totalErr : (s.storeReg r v).totalErr = s.totalErr := by cases r <;> rfl
@[simp] theorem State.storeReg_limitI : (s.storeReg r v).limitI = s.limitI := by cases r <;> rfl
@[simp] theorem State.storeReg_limitII : (s.storeReg r v).limitII = s.limitII := by cases r <;> rfl
@[simp] theorem State.storeReg_lut : (s.storeReg r v).lut = s.lut := by cases r <;> rfl
@[simp] theorem State.storeReg_pending : (s.storeReg r v).pending = s.pending := by cases r <;> rfl

end storeRegFields

/-- The registers whose value is computed at the read (10_state.md R44, R57 to R61). -/
def Reg.computed : List Reg := [.lutData, .vcheck, .freqNumLo, .freqNumHi, .freqDen, .freqHz, .vcoHz]

/-- A stored register holds what was written. -/
theorem State.regValue_storeReg_same (s : State) {r : Reg} {k : LockClass} (v : Word) (hr : r ≠ .lutData)
    (hk : r.lockClass? = some k) : (s.storeReg r v).regValue r = v := by
  cases r
  case lutData => exact absurd rfl hr
  all_goals first | rfl | cases hk

/-- A register write reaches no other register, but those computed from it. -/
theorem State.regValue_storeReg_other (s : State) {r r' : Reg} (v : Word) (hne : r' ≠ r) (hr' : r' ∉ Reg.computed) :
    (s.storeReg r v).regValue r' = s.regValue r' := by
  cases r'
  case lutData | vcheck | freqNumLo | freqNumHi | freqDen | freqHz | vcoHz => exact absurd (by decide) hr'
  case status => simp [State.regValue, State.statusWord]
  case faultInfo => simp [State.regValue, State.faultInfoWord]
  all_goals cases r <;> first | rfl | exact absurd rfl hne

/-! What no command changes. -/

@[simp] theorem Instr.effect_params (i : Instr) (s : State) : (Instr.effect i s).params = s.params := by
  cases i with
  | validate => rcases s.validate_cases with ⟨_, _, h⟩ | ⟨_, h⟩ <;> simp [Instr.effect, h]
  | build => rcases s.build_cases with ⟨_, _, _, h⟩ | ⟨_, h⟩ <;> simp [Instr.effect, h]
  | tick => rcases s.tick_cases with ⟨_, h⟩ | ⟨_, h⟩ <;> simp [Instr.effect, h]
  | nop | init | resolve | clear => rfl

/-- No command stores to the LUT RAM (10_state.md R63). -/
@[simp] theorem Instr.effect_lut (i : Instr) (s : State) : (Instr.effect i s).lut = s.lut := by
  cases i with
  | validate => rcases s.validate_cases with ⟨_, _, h⟩ | ⟨_, h⟩ <;> simp [Instr.effect, h]
  | build => rcases s.build_cases with ⟨_, _, _, h⟩ | ⟨_, h⟩ <;> simp [Instr.effect, h]
  | tick => rcases s.tick_cases with ⟨_, h⟩ | ⟨_, h⟩ <;> simp [Instr.effect, h]
  | nop | init | resolve | clear => rfl

end Sys2Proof.Machine
end

section
/-! Every step keeps the invariant (10_state.md R24, R25, R28, R32, R49, R63, R65, R68): one lemma per update of the
state, then one per ending of a host event. -/

namespace Sys2Proof.Machine

/-! ### Reserved bits (10_state.md R65) -/

/-- The registers that store fewer than 32 bits, but `LUT_DATA` and `FRAC_OUT`, whose value is 16 bits wide. -/
def Reg.narrow : List Reg :=
  [.pllCtl, .pllAcd, .fracInit, .initCount, .lutSize, .lutAddr, .measCount, .index, .prevCount]

/-- A register outside that list has no reserved bit to hold. -/
theorem State.regValue_eq_readReg (s : State) {r : Reg} (hr : r ∉ Reg.narrow) : s.regValue r = s.readReg r := by
  cases r
  case pllCtl | pllAcd | fracInit | initCount | lutSize | lutAddr | measCount | index | prevCount =>
    exact absurd (by decide) hr
  case fracOut => exact s.readReg_fracOut.symm
  case lutData =>
    refine (and_fieldMask_of_lt ?_).symm
    simp only [State.regValue, State.lutDataRead, BitVec.toNat_setWidth]
    omega
  all_goals exact (and_fullMask _).symm

/-- A word cut to its low bits fits their mask. -/
@[simp] theorem keepLow_and_mask (k : Nat) (w : Word) : keepLow k w &&& fieldMask 0 k = keepLow k w :=
  keepLow_keepLow k w

@[simp] theorem State.countWord_and_mask (s : State) (w : Word) :
    s.countWord w &&& fieldMask 0 s.params.cntW = s.countWord w :=
  keepLow_keepLow _ w

/-- A state holds no reserved bit when each narrow register is unchanged or holds a masked value. -/
theorem State.reservedZero_of_narrow {s t : State} (h : s.reservedZero) (hp : t.params = s.params)
    (hn : ∀ r ∈ Reg.narrow, t.regValue r = s.regValue r ∨ t.regValue r &&& r.mask s.params = t.regValue r) :
    t.reservedZero := by
  intro r _
  by_cases hr : r ∈ Reg.narrow
  · unfold State.readReg
    rw [hp]
    rcases hn r hr with e | e
    · rw [e]
      exact h r (mem_all r)
    · exact e.symm
  · exact t.regValue_eq_readReg hr

/-! ### The table (41_lut.md R173, R176) -/

/-- What the clause on the built table reads. -/
theorem State.tableChecked_congr {s t : State} (h : s.tableChecked) (hready : t.ready = s.ready) (hlut : t.lut = s.lut)
    (hsize : t.lutSize = s.lutSize) (hparams : t.params = s.params) (hki : t.ki = s.ki) (hkii : t.kii = s.kii)
    (hI : t.limitI = s.limitI) (hII : t.limitII = s.limitII) : t.tableChecked := by
  intro hr
  have size : t.tableSize = s.tableSize := by simp only [State.tableSize, hsize, hparams]
  rw [State.tableFault?_congr hlut hsize hparams, size, hki, hkii, hI, hII]
  exact h (hready ▸ hr)

/-- The index an error selects is an index of a table that is not empty (42_mapper.md R200). -/
theorem clampIndex_lt {n : Nat} (hn : 1 ≤ n) (sp : Int) : clampIndex n sp < n := by
  unfold clampIndex
  split_ifs <;> omega

/-- An entry of a table that passes BUILD's checks is written and has f < p (41_lut.md R173). -/
theorem State.entry_of_tableFault?_eq_none {s : State} (h : s.tableFault? = none) {i : Nat} (hi : i < s.tableSize) :
    s.lut.word? i = some (s.lutWord i) ∧ pairOk (s.lutWord i) = true := by
  obtain ⟨_, _, entries⟩ := s.tableFault?_eq_none.mp h
  obtain ⟨w, hw, hp, _⟩ := (s.entryFault?_eq_none i).mp (entries i hi)
  have e : s.lutWord i = w := by simp [State.lutWord, hw]
  rw [e]
  exact ⟨hw, hp⟩

/-- Every index of a table that passes BUILD's checks fits the `INDEX` register (41_lut.md R172). -/
theorem State.lt_lutMax_of_tableFault?_eq_none {s : State} (h : s.tableFault? = none) {i : Nat} (hi : i < s.tableSize) :
    i < 2 ^ s.params.lutAW := by
  obtain ⟨_, hmax, _⟩ := s.tableFault?_eq_none.mp h
  exact lt_of_lt_of_le hi hmax

/-- The cause and the index of BUILD's fault are those of `FAULT_INFO` (10_state.md R32). -/
theorem State.tableFault?_cause {s : State} {c : FaultCause} {i : Nat} (h : s.tableFault? = some (c, i)) :
    c ≠ .none ∧ (c.namesEntry = false → i = 0) := by
  unfold State.tableFault? at h
  split at h
  · cases h
    simp
  · obtain ⟨_, _, he, _⟩ := (s.scanEntries_eq_some _ _ _ _).mp h
    have hn := State.entryFault?_cause he
    refine ⟨?_, fun hf => absurd (hf.symm.trans hn) (by decide)⟩
    rintro rfl
    cases hn

/-- The parameters' bounds that the LUT addresses need (00_scope.md R5). -/
theorem Params.two_pow_lutAW_lt {p : Params} (h : p.wf = true) : 2 ^ p.lutAW < 2 ^ 32 := by
  simp only [Params.wf, Bool.and_eq_true, decide_eq_true_eq] at h
  exact Nat.pow_lt_pow_right (by decide) (by omega)

/-! ### One lemma per update of the state -/

/-- `s` with the fields that no clause of the invariant reads taken from `u`. -/
def State.withUnread (s u : State) : State :=
  { s with
    accSat := u.accSat, acc2Sat := u.acc2Sat, cmdErr := u.cmdErr, wrIgn := u.wrIgn
    expInc := u.expInc, kp := u.kp, periodFrac := u.periodFrac, resError := u.resError
    acc := u.acc, acc2 := u.acc2, pending := u.pending, response := u.response }

variable {s : State}

/-- The fields that no clause reads do not matter. -/
theorem State.Inv.withUnread (h : s.Inv) (u : State) : (s.withUnread u).Inv where
  paramsLegal := h.paramsLegal
  modes := h.modes
  faults := h.faults
  memory := h.memory
  reserved := State.reservedZero_of_narrow h.reserved rfl (by simp [Reg.narrow, State.withUnread, State.regValue])
  config := h.config
  table := State.tableChecked_congr h.table rfl rfl rfl rfl rfl rfl rfl rfl
  resolution := h.resolution

theorem State.Inv.respond (h : s.Inv) (r : Response) : (s.respond r).Inv := h.withUnread (s.respond r)

theorem State.Inv.dequeue (h : s.Inv) (rest : List HostEvent) : (s.dequeue rest).Inv := h.withUnread (s.dequeue rest)

theorem State.Inv.raiseCmdErr (h : s.Inv) : s.raiseCmdErr.Inv := h.withUnread s.raiseCmdErr

theorem State.Inv.ignoreWrite (h : s.Inv) : s.ignoreWrite.Inv := h.withUnread s.ignoreWrite

theorem State.Inv.reloadPeriod (h : s.Inv) : s.reloadPeriod.Inv := h.withUnread s.reloadPeriod

theorem State.Inv.hardReset (h : s.Inv) : s.hardReset.Inv :=
  (State.resetWith_inv h.paramsLegal).withUnread s.hardReset

/-- Fault entry, with the index 0 for a cause that names no entry (60_exceptions.md R300). -/
theorem State.Inv.raiseFault (h : s.Inv) {c : FaultCause} {i : Nat} (hc : c ≠ .none)
    (hi : c.namesEntry = false → i = 0) : (s.raiseFault c i).Inv where
  paramsLegal := h.paramsLegal
  modes := h.modes
  faults := ⟨⟨fun _ => hc, fun _ => rfl⟩, fun hn => by simp [hi hn]⟩
  memory := h.memory
  reserved := State.reservedZero_of_narrow h.reserved rfl (by simp [Reg.narrow, State.regValue])
  config := h.config
  table := State.tableChecked_congr h.table rfl rfl rfl rfl rfl rfl rfl rfl
  resolution := h.resolution

/-- A pass of VALIDATE in IDLE, where READY = 0 and so LOCK = NONE (40_frequency_validator.md R146). -/
theorem State.Inv.passValidate (h : s.Inv) (hc : s.cfgOk = false) (hpass : s.configFault? = none) :
    s.passValidate.Inv where
  paramsLegal := h.paramsLegal
  modes := ⟨h.modes.1, fun _ => rfl⟩
  faults := h.faults
  memory := h.memory
  reserved := State.reservedZero_of_narrow h.reserved rfl (by simp [Reg.narrow, State.regValue])
  config := fun _ =>
    let ⟨_, pair, _⟩ := s.configFault?_eq_none.mp hpass
    ⟨hpass, pair⟩
  table := State.tableChecked_congr h.table rfl rfl rfl rfl rfl rfl rfl rfl
  resolution := ⟨h.resolution.1, fun hl => absurd (hc.symm.trans (h.modes.2 (h.resolution.2 hl).1)) (by decide)⟩

/-- A pass of BUILD (41_lut.md R174). -/
theorem State.Inv.passBuild (h : s.Inv) (hc : s.cfgOk = true) (hpass : s.tableFault? = none) : s.passBuild.Inv where
  paramsLegal := h.paramsLegal
  modes := ⟨fun _ => rfl, fun _ => hc⟩
  faults := h.faults
  memory := h.memory
  reserved := State.reservedZero_of_narrow h.reserved rfl (by simp [Reg.narrow, State.regValue])
  config := h.config
  table := fun _ => ⟨(State.tableFault?_congr (s := s) (t := s.passBuild) rfl rfl rfl).trans hpass, rfl, rfl⟩
  resolution :=
    ⟨h.resolution.1, fun hl =>
      let ⟨_, entry⟩ := h.resolution.2 hl
      ⟨rfl, entry⟩⟩

/-- INIT in a mode with READY = 1: the pair of `FRAC_INIT` passed VALIDATE (43_controller.md R220). -/
theorem State.Inv.initController (h : s.Inv) (hr : s.ready = true) : s.initController.Inv where
  paramsLegal := h.paramsLegal
  modes := ⟨fun _ => hr, h.modes.2⟩
  faults := h.faults
  memory := h.memory
  reserved := State.reservedZero_of_narrow h.reserved rfl (by simp [Reg.narrow, State.regValue, Reg.mask])
  config := fun hc =>
    let ⟨checks, _⟩ := h.config hc
    let ⟨_, pair, _⟩ := s.configFault?_eq_none.mp checks
    ⟨checks, pair⟩
  table := State.tableChecked_congr h.table rfl rfl rfl rfl rfl rfl rfl rfl
  resolution := ⟨fun _ => ⟨rfl, rfl, rfl⟩, fun hl => absurd rfl hl⟩

/-- CLEAR (44_command_control.md R262). -/
theorem State.Inv.clearModes (h : s.Inv) : s.clearModes.Inv where
  paramsLegal := h.paramsLegal
  modes := by simp [State.modesOrdered]
  faults := h.faults
  memory := h.memory
  reserved := State.reservedZero_of_narrow h.reserved rfl (by simp [Reg.narrow, State.regValue, Reg.mask])
  config := by simp [State.configChecked]
  table := by simp [State.tableChecked]
  resolution := ⟨fun _ => ⟨rfl, rfl, rfl⟩, fun hl => absurd rfl hl⟩

/-- The controller's own part of a tick: `PREV_COUNT` takes a count of `CNT_W` bits (43_controller.md R223, R229). -/
theorem State.Inv.integrate (h : s.Inv) : s.integrate.Inv where
  paramsLegal := h.paramsLegal
  modes := h.modes
  faults := h.faults
  memory := h.memory
  reserved := State.reservedZero_of_narrow h.reserved rfl (by simp [Reg.narrow, State.regValue, Reg.mask])
  config := h.config
  table := State.tableChecked_congr h.table rfl rfl rfl rfl rfl rfl rfl rfl
  resolution := h.resolution

/-- Resolve in a mode with READY = 1: the entry it makes active is an entry of a good table (42_mapper.md R200). -/
theorem State.Inv.resolve (h : s.Inv) (hr : s.ready = true) (err : Int) : (s.resolve err).Inv := by
  obtain ⟨good, -, -⟩ := h.table hr
  obtain ⟨nonempty, -, -⟩ := s.tableFault?_eq_none.mp good
  have inTable : s.selectIndex err < s.tableSize := clampIndex_lt nonempty _
  obtain ⟨written, pair⟩ := State.entry_of_tableFault?_eq_none good inTable
  have index : (s.resolve err).index.toNat = s.selectIndex err := by
    have fits := State.lt_lutMax_of_tableFault?_eq_none good inTable
    rw [State.resolve_index, keepLow_toNat, BitVec.toNat_ofNat,
      Nat.mod_eq_of_lt (fits.trans (Params.two_pow_lutAW_lt h.paramsLegal)), Nat.mod_eq_of_lt fits]
  exact
    { paramsLegal := h.paramsLegal
      modes := h.modes
      faults := h.faults
      memory := h.memory
      reserved := State.reservedZero_of_narrow h.reserved rfl (by simp [Reg.narrow, State.regValue, Reg.mask])
      config := fun hc => ⟨(h.config hc).1, pair⟩
      table := State.tableChecked_congr h.table rfl rfl rfl rfl rfl rfl rfl rfl
      resolution := by
        refine ⟨fun hl => ?_, fun _ => ⟨hr, ?_, ?_⟩⟩
        · rw [State.resolve_lock, lockOf] at hl
          split_ifs at hl
        · rw [index]
          exact inTable
        · rw [index]
          exact written }

/-- The LUT port in a mode with READY = 0: a whole word below `LUT_MAX` (20_memory.md R77). -/
theorem State.lutOk_storeLutData (h : s.lutOk) (v : Word) : (s.storeLutData v).lutOk := by
  obtain ⟨canonical, below, whole⟩ := h
  have hptr := lutPointer_lt s
  refine ⟨Memory.setWord_wf _ _ canonical, fun c hc => ?_, fun c hc => ?_⟩
  · rcases Memory.mem_setWord hc with e | e | hm
    · rw [e, lutByte, State.storeLutData_params]
      omega
    · rw [e, lutByte, State.storeLutData_params]
      omega
    · exact below c hm
  · by_cases e : c.1 / 2 = s.lutPointer
    · rw [e]
      simp [State.storeLutData]
    · have hm : c ∈ s.lut := by
        rcases Memory.mem_setWord hc with e' | e' | hm
        · exact absurd (by rw [e', lutByte]; omega) e
        · exact absurd (by rw [e', lutByte]; omega) e
        · exact hm
      simpa only [State.storeLutData, Memory.word?_setWord_other _ _ e] using whole c hm

theorem State.Inv.storeLutData (h : s.Inv) (hr : s.ready = false) (v : Word) : (s.storeLutData v).Inv where
  paramsLegal := h.paramsLegal
  modes := h.modes
  faults := h.faults
  memory := State.lutOk_storeLutData h.memory v
  reserved := by
    have next : (s.lutPointer + 1) % s.params.lutMax < 2 ^ s.params.lutAW := Nat.mod_lt _ (Nat.two_pow_pos _)
    have fits := lt_of_le_of_lt (Nat.mod_le ((s.lutPointer + 1) % s.params.lutMax) (2 ^ 32)) next
    have pointer := and_fieldMask_of_lt (by rwa [BitVec.toNat_ofNat])
    exact State.reservedZero_of_narrow h.reserved rfl (by simp [Reg.narrow, State.regValue, Reg.mask, pointer])
  config := h.config
  table := fun ht => absurd (hr.symm.trans ht) (by decide)
  resolution := ⟨h.resolution.1, fun hl => absurd (hr.symm.trans (h.resolution.2 hl).1) (by decide)⟩

/-! ### A plain register of an unlocked class (10_state.md R64) -/

/-- A write that its own class lets through reaches no register of a locked class. -/
theorem State.regValue_storeReg_locked {r r' : Reg} {k k' : LockClass} (hk : r.lockClass? = some k)
    (hu : s.unlocked k = true) (v : Word) (hk' : r'.lockClass? = some k') (hl : s.unlocked k' = false)
    (hr' : r' ∉ Reg.computed) : (s.storeReg r v).regValue r' = s.regValue r' := by
  refine s.regValue_storeReg_other v ?_ hr'
  rintro rfl
  obtain rfl := Option.some.inj (hk.symm.trans hk')
  exact absurd (hl.symm.trans hu) (by decide)

/-- VALIDATE's checks read `IN_FREQ`, `PLL_CTL` and `FRAC_INIT`, and nothing else (40_frequency_validator.md R146). -/
theorem State.configFault?_congr {t : State} (hin : t.inFreq = s.inFreq) (hctl : t.pllCtl = s.pllCtl)
    (hfrac : t.fracInit = s.fracInit) : t.configFault? = s.configFault? := by
  have f : t.fOk = s.fOk := by
    unfold State.fOk State.fieldF
    rw [hctl]
  have pair : t.initPair = s.initPair := congrArg (BitVec.extractLsb' 0 16) hfrac
  have low : t.vcoLoOk = s.vcoLoOk := by
    unfold State.vcoLoOk State.vcoProduct State.inHz State.fieldF State.fieldR
    rw [hin, hctl]
  have high : t.vcoHiOk = s.vcoHiOk := by
    unfold State.vcoHiOk State.vcoProduct State.inHz State.fieldF State.fieldR
    rw [hin, hctl]
  unfold State.configFault?
  rw [f, pair, low, high]

/-- No narrow register is computed at the read. -/
theorem Reg.not_computed_of_narrow : ∀ r ∈ Reg.narrow, r ∉ Reg.computed := by decide

/-- CFG_OK locks what the clause on the configuration reads, and READY what the clauses on the table and on the lock
status read. -/
theorem State.Inv.storeReg (h : s.Inv) {r : Reg} {k : LockClass} (hr : r ≠ .lutData) (hk : r.lockClass? = some k)
    (hu : s.unlocked k = true) (v : Word) : (s.storeReg r (v &&& r.mask s.params)).Inv := by
  have classC : s.cfgOk = true → s.unlocked .c = false := fun hc => by simp [State.unlocked, hc]
  have classL : s.ready = true → s.unlocked .l = false := fun hl => by simp [State.unlocked, hl]
  have lutSize : s.ready = true → (s.storeReg r (v &&& r.mask s.params)).lutSize = s.lutSize := fun hl =>
    State.regValue_storeReg_locked (r' := .lutSize) hk hu _ rfl (classL hl) (by decide)
  exact
    { paramsLegal := by simpa using h.paramsLegal
      modes := by simpa [State.modesOrdered] using h.modes
      faults := by simpa [State.faultRecorded] using h.faults
      memory := by simpa [State.lutOk] using h.memory
      reserved := by
        refine State.reservedZero_of_narrow h.reserved (by simp) fun r' hr' => ?_
        by_cases e : r' = r
        · subst e
          rw [State.regValue_storeReg_same s _ hr hk, BitVec.and_assoc, BitVec.and_self]
          exact .inr rfl
        · exact .inl (s.regValue_storeReg_other _ e (Reg.not_computed_of_narrow r' hr'))
      config := fun hc => by
        rw [State.storeReg_cfgOk] at hc
        have locked : ∀ {r' : Reg}, r'.lockClass? = some .c → r' ∉ Reg.computed → _ := fun hk' =>
          State.regValue_storeReg_locked hk hu (v &&& r.mask s.params) hk' (classC hc)
        rw [State.storeReg_fracOut, State.configFault?_congr (locked (r' := .inFreq) rfl (by decide))
          (locked (r' := .pllCtl) rfl (by decide)) (locked (r' := .fracInit) rfl (by decide))]
        exact h.config hc
      table := fun hl => by
        rw [State.storeReg_ready] at hl
        have locked : ∀ {r' : Reg}, r'.lockClass? = some .l → r' ∉ Reg.computed → _ := fun hk' =>
          State.regValue_storeReg_locked hk hu (v &&& r.mask s.params) hk' (classL hl)
        exact State.tableChecked_congr h.table (by simp) (by simp) (lutSize hl) (by simp)
          (locked (r' := .ki) rfl (by decide)) (locked (r' := .kii) rfl (by decide)) (by simp)
          (by simp) (by simpa using hl)
      resolution := by
        obtain ⟨none, some⟩ := h.resolution
        refine ⟨by simpa using none, fun hne => ?_⟩
        obtain ⟨hready, hindex, hword⟩ := some (by simpa using hne)
        simp only [State.tableSize, State.storeReg_index, State.storeReg_ready, State.storeReg_lut,
          State.storeReg_fracOut, State.storeReg_params, lutSize hready]
        exact ⟨hready, hindex, hword⟩ }

/-! ### Commands, events and steps -/

/-- A command in a mode that runs it (44_command_control.md R264). -/
theorem State.Inv.effect (h : s.Inv) {i : Instr} (ha : Instr.allowed i s = true) : (Instr.effect i s).Inv := by
  cases i with
  | nop => exact h
  | validate =>
    rcases s.validate_cases with ⟨c, hc, he⟩ | ⟨hpass, he⟩ <;> rw [Instr.effect, he]
    · exact h.raiseFault (State.configFault?_ne_none_cause hc).1 fun _ => rfl
    · exact h.passValidate (by simpa [Instr.allowed] using ha) hpass
  | build =>
    rcases s.build_cases with ⟨c, i, hc, he⟩ | ⟨hpass, he⟩ <;> rw [Instr.effect, he]
    · obtain ⟨named, index⟩ := State.tableFault?_cause hc
      exact h.raiseFault named index
    · have hcfg : s.cfgOk = true ∧ s.ready = false := by simpa [Instr.allowed] using ha
      exact h.passBuild hcfg.1 hpass
  | init => exact h.initController ha
  | tick =>
    rcases s.tick_cases with ⟨_, he⟩ | ⟨_, he⟩ <;> rw [Instr.effect, he]
    · exact h.raiseFault (by decide) fun _ => rfl
    · exact (h.integrate.resolve (h.modes.1 ha) _).reloadPeriod
  | resolve => exact h.resolve ha _
  | clear => exact h.clearModes

/-- Every ending of a host event. -/
theorem State.Inv.served (h : s.Inv) {e : HostEvent} {t : State} (he : s.Served e t) : t.Inv := by
  have hw := h.respond .writeOk
  cases he with
  | answered r _ => exact h.respond r
  | ran _ ha => exact hw.effect (by simpa using ha)
  | refused => exact hw.raiseCmdErr
  | ignored => exact hw.ignoreWrite
  | loaded _ hr => exact hw.storeLutData hr _
  | stored _ hr hk hu => exact hw.storeReg hr hk (by simpa using hu) _
  | wasReset => exact h.hardReset

/-- Settles O59: a step waits, or takes the first event and serves it. -/
theorem stepKeepsTheInvariant : Obligations.StepKeepsTheInvariant := by
  intro s t h hs
  rcases step_next_cases hs with rfl | ⟨e, rest, he⟩
  · exact h
  · exact (h.dequeue rest).served he

/-- Settles O60: only a word written through the LUT port and reset change the memory. -/
theorem stepKeepsTheMemoryCanonical : Obligations.StepKeepsTheMemoryCanonical := by
  intro s t h hs
  rcases step_next_cases hs with rfl | ⟨e, rest, he⟩
  · exact h
  · cases he with
    | answered | refused | ignored => exact h
    | ran => simpa using h
    | loaded => exact Memory.setWord_wf _ _ h
    | stored => simpa using h
    | wasReset => exact List.Pairwise.nil

end Sys2Proof.Machine
end

section
/-! The modes and the sticky flags over one host event (10_state.md R29 to R31, R68; 44_command_control.md R265). -/

namespace Sys2Proof.Machine

/-! ### Events by what they ask for -/

/-- Every command word decodes to its command (30_encoding.md R102). -/
theorem decode_commandWord (i : Instr) : decode (encode i) = .ok i := by cases i <;> decide

/-- A command in a mode that runs it (44_command_control.md R264). -/
theorem State.perform_commandOf {s : State} (i : Instr) (hf : s.fault = false) (ha : Instr.allowed i s = true) :
    s.perform (commandOf i) = .next (Instr.effect i (s.respond .writeOk)) := by
  rw [commandOf, s.perform_command (decode_commandWord i), exec_eq]
  simp [hf, ha]

/-- A word that is no command, and a command in a mode that refuses it, raise `CmdErr` (60_exceptions.md R306). -/
theorem State.perform_refusedWord {s : State} {v : Word} (hf : s.fault = false)
    (hv : (∃ d, decode v = .error d) ∨ ∃ i, decode v = .ok i ∧ Instr.allowed i s = false) :
    s.perform (commandEvent v) = .next (s.respond .writeOk).raiseCmdErr := by
  rcases hv with ⟨d, hd⟩ | ⟨i, hd, ha⟩
  · exact s.perform_refused hf hd
  · rw [s.perform_command hd, exec_eq]
    simp [hf, ha]

/-- A write to a register whose class is locked is ignored (10_state.md R64). -/
theorem State.perform_lockedWrite {s : State} {r : Reg} {k : LockClass} (hf : s.fault = false)
    (hk : r.lockClass? = some k) (hl : s.unlocked k = false) (v : Word) :
    s.perform (.write r.offset 4 v) = .next (s.respond .writeOk).ignoreWrite := by
  have hr : r ≠ .cmd := by
    rintro rfl
    cases hk
  rw [s.perform_write hf hr]
  simp [State.writeReg, hk, hl]

/-- The registers of each lock class (10_state.md R64). -/
theorem Reg.lockClass?_eq_c (r : Reg) : r.lockClass? = some .c ↔ r ∈ [Reg.inFreq, .pllCtl, .pllAcd, .fracInit] := by
  cases r <;> decide

theorem Reg.lockClass?_eq_l (r : Reg) : r.lockClass? = some .l ↔ r ∈ [Reg.kp, .ki, .kii, .lutSize, .lutData] := by
  cases r <;> decide

theorem Reg.lockClass?_eq_s (r : Reg) : r.lockClass? = some .s ↔ r ∈ [Reg.expInc, .initCount] := by
  cases r <;> decide

theorem Reg.lockClass?_eq_o (r : Reg) :
    r.lockClass? = some .o ↔ r ∈ [Reg.lutAddr, .measCount, .periodFrac, .resError] := by
  cases r <;> decide

/-- When the class of a register is locked: class O never is (10_state.md R64). -/
theorem State.locked_iff (s : State) (r : Reg) :
    (∃ k, r.lockClass? = some k ∧ s.unlocked k = false) ↔
      (r.lockClass? = some .c ∧ s.cfgOk = true) ∨ (r.lockClass? = some .l ∧ s.ready = true) ∨
      (r.lockClass? = some .s ∧ s.run = true) := by
  constructor
  · rintro ⟨k, hk, hl⟩
    cases k <;> simp_all [State.unlocked]
  · rintro (⟨hk, hl⟩ | ⟨hk, hl⟩ | ⟨hk, hl⟩) <;> exact ⟨_, hk, by simp [State.unlocked, hl]⟩

/-! ### The mode -/

/-- The mode is FAULTED exactly while FAULT = 1 (44_command_control.md R263). -/
theorem State.mode_eq_faulted_iff (s : State) : s.mode = .faulted ↔ s.fault = true := by
  unfold State.mode
  split_ifs <;> simp_all

/-- The mode is read off its four flags. -/
theorem State.mode_congr {s t : State} (hf : t.fault = s.fault) (hrun : t.run = s.run) (hready : t.ready = s.ready)
    (hcfg : t.cfgOk = s.cfgOk) : t.mode = s.mode := by
  unfold State.mode
  rw [hf, hrun, hready, hcfg]

/-- A command's own precondition is its row of the mode table (44_command_control.md R264). -/
theorem Instr.allowed_eq_runsIn {s : State} (hm : s.modesOrdered) (hf : s.fault = false) (i : Instr) :
    Instr.allowed i s = i.runsIn s.mode := by
  obtain ⟨runReady, readyCfg⟩ := hm
  unfold State.mode
  rw [hf]
  cases hrun : s.run
  · cases hready : s.ready
    · cases hcfg : s.cfgOk <;> cases i <;> simp [Instr.allowed, Instr.runsIn, hrun, hready, hcfg]
    · have hcfg := readyCfg hready
      cases i <;> simp [Instr.allowed, Instr.runsIn, hrun, hready, hcfg]
  · have hready := runReady hrun
    have hcfg := readyCfg hready
    cases i <;> simp [Instr.allowed, Instr.runsIn, hrun, hready, hcfg]

/-- A command that its mode runs keeps the mode order, and keeps the mode or makes a listed transition
(44_command_control.md R265). -/
theorem Instr.effect_mode {s : State} (hm : s.modesOrdered) (hf : s.fault = false) {i : Instr}
    (ha : Instr.allowed i s = true) :
    (Instr.effect i s).modesOrdered ∧
    ((Instr.effect i s).mode = s.mode ∨ i.transition s.mode (Instr.effect i s).mode = true) := by
  obtain ⟨runReady, readyCfg⟩ := hm
  cases i with
  | nop => exact ⟨⟨runReady, readyCfg⟩, .inl rfl⟩
  | validate =>
    have hcfg : s.cfgOk = false := by simpa [Instr.allowed] using ha
    have hready : s.ready = false := by simpa [hcfg] using readyCfg
    have hrun : s.run = false := by simpa [hready] using runReady
    rcases s.validate_cases with ⟨_, _, h⟩ | ⟨_, h⟩ <;>
      simp [Instr.effect, h, State.modesOrdered, State.mode, Instr.transition, hf, hrun, hready, hcfg]
  | build =>
    have hflags : s.cfgOk = true ∧ s.ready = false := by simpa [Instr.allowed] using ha
    obtain ⟨hcfg, hready⟩ := hflags
    have hrun : s.run = false := by simpa [hready] using runReady
    rcases s.build_cases with ⟨_, _, _, h⟩ | ⟨_, h⟩ <;>
      simp [Instr.effect, h, State.modesOrdered, State.mode, Instr.transition, hf, hrun, hready, hcfg]
  | init =>
    have hready : s.ready = true := ha
    have hcfg := readyCfg hready
    cases hrun : s.run <;>
      simp [Instr.effect, State.modesOrdered, State.mode, Instr.transition, hf, hrun, hready, hcfg]
  | tick =>
    have hrun : s.run = true := ha
    have hready := runReady hrun
    have hcfg := readyCfg hready
    rcases s.tick_cases with ⟨_, h⟩ | ⟨_, h⟩ <;>
      simp [Instr.effect, h, State.modesOrdered, State.mode, Instr.transition, hf, hrun, hready, hcfg]
  | resolve => exact ⟨⟨runReady, readyCfg⟩, .inl rfl⟩
  | clear =>
    have hmode : s.mode ≠ .faulted := fun e => absurd ((s.mode_eq_faulted_iff.mp e).symm.trans hf) (by decide)
    have idle : (Instr.effect .clear s).mode = .idle := by simp [Instr.effect, State.mode, hf]
    refine ⟨by simp [Instr.effect, State.modesOrdered], .inr ?_⟩
    rw [idle]
    simpa [Instr.transition] using hmode

/-- The same over every ending of a host event. -/
theorem State.Served.mode {s t : State} {e : HostEvent} (hm : s.modesOrdered) (he : s.Served e t) :
    t.modesOrdered ∧
    (t.mode = s.mode ∨ e = .reset ∨ ∃ i : Instr, e = commandOf i ∧ i.transition s.mode t.mode = true) := by
  cases he with
  | answered | refused | ignored | loaded => exact ⟨hm, .inl rfl⟩
  | @ran i hf ha =>
    obtain ⟨order, change⟩ := Instr.effect_mode (s := s.respond .writeOk) hm hf (by simpa using ha)
    exact ⟨order, change.imp_right fun h => .inr ⟨i, rfl, h⟩⟩
  | stored =>
    exact ⟨by simpa [State.modesOrdered] using hm, .inl (State.mode_congr (by simp) (by simp) (by simp) (by simp))⟩
  | wasReset => exact ⟨by simp [State.modesOrdered], .inr (.inl rfl)⟩

/-- Settles O8: the mode follows each ending, and an event in FAULTED is answered or is reset. -/
theorem modeChangesOnlyByListedTransitions : Obligations.ModeChangesOnlyByListedTransitions := by
  intro s t e hm h
  have he := State.served_of_perform h
  obtain ⟨order, change⟩ := he.mode hm
  refine ⟨order, ?_, ?_, change⟩
  · rintro rfl
    obtain rfl := Host.Outcome.next.inj h
    rfl
  · intro hne hfaulted
    have hf := s.mode_eq_faulted_iff.mp hfaulted
    cases he with
    | answered => exact hfaulted
    | ran hf' | refused hf' | ignored hf' | loaded hf' | stored hf' => exact absurd (hf.symm.trans hf') (by decide)
    | wasReset => exact absurd rfl hne

/-! ### The saturation flags (10_state.md R29) -/

/-- `sat_s` of 64 bits stores another value exactly when the sum does not fit (43_controller.md R223). -/
theorem saturates_iff (v : Int) : saturates 64 v = true ↔ v < -(2 ^ 63) ∨ 2 ^ 63 ≤ v := by
  rw [saturates, decide_eq_true_iff, satS_toInt 63, clamp]
  omega

/-- What an event leaves of the saturation flags: both cleared, both set as a completed TICK says, or both kept. -/
theorem State.Served.saturation {s t : State} {e : HostEvent} (he : s.Served e t) :
    ((e = .reset ∨ e = commandOf .init) ∧ t.accSat = false ∧ t.acc2Sat = false) ∨
    ((e = commandOf .tick ∧ s.fault = false ∧ s.run = true ∧ s.periodFrac ≠ 0#32) ∧
      t.accSat = (s.accSat || saturates 64 s.accSum) ∧ t.acc2Sat = (s.acc2Sat || saturates 64 s.acc2Sum)) ∨
    (t.accSat = s.accSat ∧ t.acc2Sat = s.acc2Sat) := by
  cases he with
  | answered | refused | ignored | loaded => exact .inr (.inr ⟨rfl, rfl⟩)
  | stored => exact .inr (.inr (by simp))
  | wasReset => exact .inl ⟨.inl rfl, rfl, rfl⟩
  | @ran i hf ha =>
    cases i with
    | nop | resolve | clear => exact .inr (.inr ⟨rfl, rfl⟩)
    | init => exact .inl ⟨.inr rfl, rfl, rfl⟩
    | validate =>
      rcases (s.respond .writeOk).validate_cases with ⟨_, _, h⟩ | ⟨_, h⟩ <;>
        exact .inr (.inr (by simp [Instr.effect, h]))
    | build =>
      rcases (s.respond .writeOk).build_cases with ⟨_, _, _, h⟩ | ⟨_, h⟩ <;>
        exact .inr (.inr (by simp [Instr.effect, h]))
    | tick =>
      rcases (s.respond .writeOk).tick_cases with ⟨_, h⟩ | ⟨hp, h⟩ <;> rw [Instr.effect, h]
      · exact .inr (.inr ⟨rfl, rfl⟩)
      · exact .inr (.inl ⟨⟨rfl, hf, ha, hp⟩, rfl, rfl⟩)

/-- A TICK that completes (43_controller.md R221). -/
theorem State.perform_tick_completes {s : State} (hf : s.fault = false) (hrun : s.run = true)
    (hp : s.periodFrac ≠ 0#32) :
    s.perform (commandOf .tick) =
      .next (((s.respond .writeOk).integrate.resolve (s.respond .writeOk).totalError).reloadPeriod) := by
  rw [State.perform_commandOf .tick hf hrun]
  rcases (s.respond .writeOk).tick_cases with ⟨hp', _⟩ | ⟨_, h⟩
  · exact absurd hp' hp
  · rw [Instr.effect, h]

/-- Settles O48: an event clears both flags, sets them as a completed TICK says, or keeps them. -/
theorem saturationFlagsAreSticky : Obligations.SaturationFlagsAreSticky := by
  intro s t e h
  have change := (State.served_of_perform h).saturation
  refine ⟨?_, ?_, ?_, ?_⟩
  · rintro rfl hf hrun hp
    rw [State.perform_tick_completes hf hrun hp] at h
    obtain rfl := Host.Outcome.next.inj h
    rw [← saturates_iff, ← saturates_iff, ← Bool.or_eq_true, ← Bool.or_eq_true]
    exact ⟨Iff.rfl, Iff.rfl⟩
  · intro hno
    rcases change with ⟨_, h₁, h₂⟩ | ⟨hyes, _⟩ | ⟨h₁, h₂⟩
    · exact ⟨fun _ => h₁, fun _ => h₂⟩
    · exact absurd hyes hno
    · exact ⟨h₁.trans, h₂.trans⟩
  · intro hfell
    rcases change with ⟨he, _⟩ | ⟨_, h₁, h₂⟩ | ⟨h₁, h₂⟩
    · exact he
    · rw [h₁, h₂] at hfell
      rcases hfell with ⟨hs, ht⟩ | ⟨hs, ht⟩ <;> simp [hs] at ht
    · rw [h₁, h₂] at hfell
      rcases hfell with ⟨hs, ht⟩ | ⟨hs, ht⟩ <;> exact absurd (hs.symm.trans ht) (by decide)
  · rintro (rfl | ⟨rfl, hf, hready⟩)
    · obtain rfl := Host.Outcome.next.inj h
      exact ⟨rfl, rfl⟩
    · rw [State.perform_commandOf .init hf hready] at h
      obtain rfl := Host.Outcome.next.inj h
      exact ⟨rfl, rfl⟩

/-! ### The sticky interface flags (10_state.md R30, R31) -/

/-- CLEAR is the one command that writes the interface flags. -/
theorem Instr.effect_interfaceFlags (i : Instr) (s : State) :
    (i = .clear ∧ (Instr.effect i s).cmdErr = false ∧ (Instr.effect i s).wrIgn = false) ∨
    ((Instr.effect i s).cmdErr = s.cmdErr ∧ (Instr.effect i s).wrIgn = s.wrIgn) := by
  cases i with
  | clear => exact .inl ⟨rfl, rfl, rfl⟩
  | nop | init | resolve => exact .inr ⟨rfl, rfl⟩
  | validate => rcases s.validate_cases with ⟨_, _, h⟩ | ⟨_, h⟩ <;> exact .inr (by simp [Instr.effect, h])
  | build => rcases s.build_cases with ⟨_, _, _, h⟩ | ⟨_, h⟩ <;> exact .inr (by simp [Instr.effect, h])
  | tick => rcases s.tick_cases with ⟨_, h⟩ | ⟨_, h⟩ <;> exact .inr (by simp [Instr.effect, h])

/-- What an event leaves of the interface flags: both cleared by reset or CLEAR, CMD_ERR set by a refused word, WR_IGN
set by an ignored write, or both kept. -/
theorem State.Served.interfaceFlags {s t : State} {e : HostEvent} (he : s.Served e t) :
    ((e = .reset ∨ e = commandOf .clear ∧ s.fault = false) ∧ t.cmdErr = false ∧ t.wrIgn = false) ∨
    (s.fault = false ∧ (∃ v, e = commandEvent v ∧
        ((∃ d, decode v = .error d) ∨ ∃ i, decode v = .ok i ∧ Instr.allowed i s = false)) ∧
      t.cmdErr = true ∧ t.wrIgn = s.wrIgn) ∨
    (s.fault = false ∧ (∃ (r : Reg) (v : Word) (k : LockClass),
        e = .write r.offset 4 v ∧ r.lockClass? = some k ∧ s.unlocked k = false) ∧
      t.cmdErr = s.cmdErr ∧ t.wrIgn = true) ∨
    (t.cmdErr = s.cmdErr ∧ t.wrIgn = s.wrIgn) := by
  cases he with
  | answered | loaded => exact .inr (.inr (.inr ⟨rfl, rfl⟩))
  | stored => exact .inr (.inr (.inr (by simp)))
  | @ran i hf _ =>
    rcases Instr.effect_interfaceFlags i (s.respond .writeOk) with ⟨rfl, h⟩ | h
    · exact .inl ⟨.inr ⟨rfl, hf⟩, h⟩
    · exact .inr (.inr (.inr h))
  | @refused v hf hv => exact .inr (.inl ⟨hf, ⟨v, rfl, hv⟩, rfl, rfl⟩)
  | @ignored r v k hf hk hl => exact .inr (.inr (.inl ⟨hf, ⟨r, v, k, rfl, hk, hl⟩, rfl, rfl⟩))
  | wasReset => exact .inl ⟨.inl rfl, rfl, rfl⟩

/-- Reset, and CLEAR with FAULT = 0, clear both interface flags (10_state.md R30, R31). -/
theorem State.interfaceFlags_cleared {s t : State} {e : HostEvent} (h : s.perform e = .next t)
    (he : e = .reset ∨ e = commandOf .clear ∧ s.fault = false) : t.cmdErr = false ∧ t.wrIgn = false := by
  rcases he with rfl | ⟨rfl, hf⟩
  · obtain rfl := Host.Outcome.next.inj h
    exact ⟨rfl, rfl⟩
  · rw [State.perform_commandOf .clear hf rfl] at h
    obtain rfl := Host.Outcome.next.inj h
    exact ⟨rfl, rfl⟩

/-- Settles O49: of the endings only a refusal sets CMD_ERR, and the mode table says which commands are refused. -/
theorem commandErrorFlagIsSticky : Obligations.CommandErrorFlagIsSticky := by
  intro s t e hm h
  have change := (State.served_of_perform h).interfaceFlags
  refine ⟨fun hs => ⟨fun ht => ?_, ?_⟩, fun hs => ⟨fun ht => ?_, fun he => (State.interfaceFlags_cleared h he).1⟩⟩
  · rcases change with ⟨_, ht', _⟩ | ⟨hf, ⟨v, rfl, hv⟩, _⟩ | ⟨_, _, ht', _⟩ | ⟨ht', _⟩
    · cases ht.symm.trans ht'
    · simp only [Instr.allowed_eq_runsIn hm hf] at hv
      exact ⟨hf, v, rfl, hv⟩
    · cases ht.symm.trans (ht'.trans hs)
    · cases ht.symm.trans (ht'.trans hs)
  · rintro ⟨hf, v, rfl, hv⟩
    simp only [← Instr.allowed_eq_runsIn hm hf] at hv
    obtain rfl := Host.Outcome.next.inj ((State.perform_refusedWord hf hv).symm.trans h)
    rfl
  · rcases change with ⟨he, _⟩ | ⟨_, _, ht', _⟩ | ⟨_, _, ht', _⟩ | ⟨ht', _⟩
    · exact he
    · cases ht.symm.trans ht'
    · cases ht.symm.trans (ht'.trans hs)
    · cases ht.symm.trans (ht'.trans hs)

/-- Settles O50: of the endings only an ignored write sets WR_IGN. -/
theorem writeIgnoredFlagIsSticky : Obligations.WriteIgnoredFlagIsSticky := by
  intro s t e h
  have change := (State.served_of_perform h).interfaceFlags
  simp only [← Reg.lockClass?_eq_c, ← Reg.lockClass?_eq_l, ← Reg.lockClass?_eq_s, ← State.locked_iff]
  refine ⟨fun hs => ⟨fun ht => ?_, ?_⟩, fun hs => ⟨fun ht => ?_, fun he => (State.interfaceFlags_cleared h he).2⟩⟩
  · rcases change with ⟨_, _, ht'⟩ | ⟨_, _, _, ht'⟩ | ⟨hf, ⟨r, v, k, rfl, hk, hl⟩, _⟩ | ⟨_, ht'⟩
    · cases ht.symm.trans ht'
    · cases ht.symm.trans (ht'.trans hs)
    · exact ⟨hf, r, v, rfl, k, hk, hl⟩
    · cases ht.symm.trans (ht'.trans hs)
  · rintro ⟨hf, r, v, rfl, k, hk, hl⟩
    obtain rfl := Host.Outcome.next.inj ((State.perform_lockedWrite hf hk hl v).symm.trans h)
    rfl
  · rcases change with ⟨he, _⟩ | ⟨_, _, _, ht'⟩ | ⟨_, _, _, ht'⟩ | ⟨_, ht'⟩
    · exact he
    · cases ht.symm.trans (ht'.trans hs)
    · cases ht.symm.trans ht'
    · cases ht.symm.trans (ht'.trans hs)

end Sys2Proof.Machine
end

section
/-! The register window (10_state.md R21, R23, R32 to R56, R62, R64 to R66): what each register stores and reads,
which writes are stored, and what reads after reset. -/

namespace Sys2Proof.Machine

/-! ### Masks and reads -/

/-- Keeping the low `k` bits, as a number (10_state.md R65). -/
theorem and_fieldMask_eq_ofNat (k : Nat) (w : Word) : w &&& fieldMask 0 k = BitVec.ofNat 32 (w.toNat % 2 ^ k) := by
  refine BitVec.eq_of_toNat_eq ((keepLow_toNat k w).trans ?_)
  rw [BitVec.toNat_ofNat, Nat.mod_eq_of_lt (lt_of_le_of_lt (Nat.mod_le _ _) w.isLt)]

/-- The three fields of `PLL_CTL` (10_state.md R34). -/
theorem Reg.mask_pllCtl (p : Params) : Reg.mask p .pllCtl = 0x073F1FFF#32 :=
  show fieldMask 0 13 ||| fieldMask 16 6 ||| fieldMask 24 3 = 0x073F1FFF#32 by decide

/-- No register shows the block's last answer (log 3). -/
@[simp] theorem State.regValue_respond (s : State) (r : Response) (r' : Reg) :
    (s.respond r).regValue r' = s.regValue r' := by
  cases r' <;> rfl

/-- Settles O22: whole words, the fields of `PLL_CTL`, and low bits. -/
theorem storedBitsOfEachRegister : Obligations.StoredBitsOfEachRegister := by
  intro p v
  have whole := and_fullMask v
  have low : ∀ k, (v &&& fieldMask 0 k).toNat = v.toNat % 2 ^ k := fun k => keepLow_toNat k v
  exact ⟨⟨whole, whole, whole, whole, whole, whole, whole⟩, Reg.mask_pllCtl p, low _, low _, low _, low _, low _, low _⟩

/-- The map lists the registers in the order of their offsets, one word apart (10_state.md section 2). -/
theorem Reg.offset_of_getElem? {k : Nat} {r : Reg} (h : Reg.all[k]? = some r) : r.offset.toNat = 4 * k := by
  have table : ∀ j : Fin Reg.all.length, Reg.all[j].offset.toNat = 4 * j.val := by decide
  obtain ⟨hk, rfl⟩ := List.getElem?_eq_some_iff.mp h
  exact table ⟨k, hk⟩

/-- Settles O20: the offset names the register, and its mask is whole, the fields of `PLL_CTL`, or low bits. -/
theorem alignedReadsReturnTheRegister : Obligations.AlignedReadsReturnTheRegister := by
  refine ⟨fun s k r h => ?_, fun s => ?_⟩
  · have offset := Reg.offset_of_getElem? h
    rw [← offset, BitVec.ofNat_toNat, BitVec.setWidth_eq]
    exact ⟨rfl, s.perform_read r, rfl⟩
  · have reads : ∀ (r : Reg) (d : Word), s.readReg r = d →
        s.perform (.read r.offset 4) = .next { s with response := .readOk d } := by
      rintro r _ rfl
      exact s.perform_read r
    have control : s.readReg .pllCtl = s.pllCtl &&& 0x073F1FFF#32 := congrArg (s.pllCtl &&& ·) (Reg.mask_pllCtl _)
    have low := and_fieldMask_eq_ofNat
    exact
      ⟨⟨reads .inFreq _ (and_fullMask _), reads .pllCtl _ control, reads .pllAcd _ (low _ _),
          reads .fracInit _ (low _ _)⟩,
        ⟨reads .expInc _ (and_fullMask _), reads .initCount _ (low _ _), reads .kp _ (and_fullMask _),
          reads .ki _ (and_fullMask _), reads .kii _ (and_fullMask _), reads .lutSize _ (low _ _),
          reads .lutAddr _ (low _ _)⟩,
        ⟨reads .measCount _ (low _ _), reads .periodFrac _ (and_fullMask _), reads .resError _ (and_fullMask _)⟩,
        ⟨reads .fracOut _ s.readReg_fracOut, reads .index _ (low _ _), reads .setpoint _ (and_fullMask _),
          reads .totalErr _ (and_fullMask _), reads .prevCount _ (low _ _)⟩,
        ⟨reads .accLo _ (and_fullMask _), reads .accHi _ (and_fullMask _), reads .acc2Lo _ (and_fullMask _),
          reads .acc2Hi _ (and_fullMask _), reads .limitILo _ (and_fullMask _), reads .limitIHi _ (and_fullMask _),
          reads .limitIILo _ (and_fullMask _), reads .limitIIHi _ (and_fullMask _)⟩⟩

/-! ### Writes (10_state.md R64, R65) -/

/-- A write to a plain register whose class is unlocked is stored. -/
theorem State.perform_storedWrite {s : State} {r : Reg} {k : LockClass} (hf : s.fault = false) (hr : r ≠ .lutData)
    (hk : r.lockClass? = some k) (hu : s.unlocked k = true) (v : Word) :
    s.perform (.write r.offset 4 v) = .next ((s.respond .writeOk).storeReg r (v &&& r.mask s.params)) := by
  have hcmd : r ≠ .cmd := by
    rintro rfl
    cases hk
  rw [s.perform_write hf hcmd]
  simp [State.writeReg, hk, hu, hr]

/-- What reads after a stored write: the masked value, and every other register as before, but those computed. -/
theorem State.readReg_storeReg {s : State} {r : Reg} {k : LockClass} (hr : r ≠ .lutData) (hk : r.lockClass? = some k)
    (v : Word) :
    (s.storeReg r (v &&& r.mask s.params)).readReg r = v &&& r.mask s.params ∧
    ∀ r', r' ≠ r → r' ∉ Reg.computed → (s.storeReg r (v &&& r.mask s.params)).readReg r' = s.readReg r' := by
  unfold State.readReg
  refine ⟨?_, fun r' hne hc => ?_⟩
  · rw [State.regValue_storeReg_same s _ hr hk, State.storeReg_params, BitVec.and_assoc, BitVec.and_self]
  · rw [State.regValue_storeReg_other s _ hne hc, State.storeReg_params]

/-- Settles O23: the class of the register decides between a stored write and an ignored one. -/
theorem registerWritesObeyTheLockClass : Obligations.RegisterWritesObeyTheLockClass := by
  intro s r v hf classC classL classS classO
  have ofL : classL ∨ r = .lutData → r.lockClass? = some .l := by
    rintro (h | rfl)
    · exact (Reg.lockClass?_eq_l r).mpr (List.mem_append_left [Reg.lutData] h)
    · rfl
  constructor
  · intro h
    have hr : r ≠ .lutData := by
      rintro rfl
      simp [classC, classL, classS, classO] at h
    have unlocked : ∃ k, r.lockClass? = some k ∧ s.unlocked k = true := by
      rcases h with ⟨hc, hu⟩ | ⟨hc, hu⟩ | ⟨hc, hu⟩ | hc
      · exact ⟨.c, (Reg.lockClass?_eq_c r).mpr hc, by simp [State.unlocked, hu]⟩
      · exact ⟨.l, ofL (.inl hc), by simp [State.unlocked, hu]⟩
      · exact ⟨.s, (Reg.lockClass?_eq_s r).mpr hc, by simp [State.unlocked, hu]⟩
      · exact ⟨.o, (Reg.lockClass?_eq_o r).mpr hc, rfl⟩
    obtain ⟨k, hk, hu⟩ := unlocked
    obtain ⟨same, other⟩ := State.readReg_storeReg (s := s.respond .writeOk) hr hk v
    refine ⟨_, State.perform_storedWrite hf hr hk hu v, same, fun r' hne hc => ?_, by simp, by simp, by simp⟩
    refine (other r' hne hc).trans ?_
    simp [State.readReg]
  · intro h
    have locked : ∃ k, r.lockClass? = some k ∧ s.unlocked k = false :=
      (s.locked_iff r).mpr (h.imp (And.imp_left (Reg.lockClass?_eq_c r).mpr)
        (Or.imp (And.imp_left ofL) (And.imp_left (Reg.lockClass?_eq_s r).mpr)))
    obtain ⟨k, hk, hl⟩ := locked
    exact ⟨.writeOk, State.perform_lockedWrite hf hk hl v⟩

/-! ### STATUS and FAULT_INFO (10_state.md R23, R32) -/

/-- The single flags of `STATUS`, bits 3 and [5:4] apart. -/
theorem State.statusWord_flags (s : State) :
    s.statusWord.getLsbD 0 = s.cfgOk ∧ s.statusWord.getLsbD 1 = s.ready ∧ s.statusWord.getLsbD 2 = s.run ∧
    s.statusWord.getLsbD 6 = s.accSat ∧ s.statusWord.getLsbD 7 = s.acc2Sat ∧ s.statusWord.getLsbD 8 = s.cmdErr ∧
    s.statusWord.getLsbD 9 = s.wrIgn := by
  unfold State.statusWord
  refine ⟨?_, ?_, ?_, ?_, ?_, ?_, ?_⟩ <;>
    · iterate 9 rw [BitVec.getLsbD_append]
      simp [flagBit]

/-- `STATUS` is 0 above its flags. -/
theorem State.statusWord_reserved (s : State) : s.statusWord.extractLsb' 10 22 = 0#22 := by
  unfold State.statusWord
  iterate 8 rw [BitVec.extractLsb'_append_eq_of_le (by decide)]
  exact BitVec.extractLsb'_append_eq_left

/-- The three fields of `FAULT_INFO`. -/
theorem State.faultInfoWord_fields (s : State) :
    s.faultInfoWord.extractLsb' 0 8 = s.faultCause.code ∧ s.faultInfoWord.extractLsb' 8 8 = 0#8 ∧
    s.faultInfoWord.extractLsb' 16 16 = s.faultIndex := by
  unfold State.faultInfoWord
  refine ⟨BitVec.extractLsb'_append_eq_right, ?_, ?_⟩
  · rw [BitVec.extractLsb'_append_eq_of_le (by decide)]
    exact BitVec.extractLsb'_append_eq_right
  · rw [BitVec.extractLsb'_append_eq_of_le (by decide)]
    exact BitVec.extractLsb'_append_eq_left

/-- Settles O52, field by field. -/
theorem statusAndFaultInfoLayout : Obligations.StatusAndFaultInfoLayout := by
  intro s w i
  have hw : w = s.statusWord := s.readReg_status
  have hi : i = s.faultInfoWord := and_fullMask _
  obtain ⟨cfgOk, ready, run, accSat, acc2Sat, cmdErr, wrIgn⟩ := s.statusWord_flags
  rw [hw, hi]
  exact ⟨cfgOk, ready, run, s.statusWord_fault, s.statusWord_lock, accSat, acc2Sat, cmdErr, wrIgn,
    s.statusWord_reserved, s.faultInfoWord_fields⟩

/-! ### ID and PARAMS (10_state.md R21, R62) -/

/-- Two fields side by side, as a number. -/
theorem toNat_append_eq_add {m n : Nat} (x : BitVec m) (y : BitVec n) :
    (x ++ y).toNat = x.toNat * 2 ^ n + y.toNat := by
  rw [BitVec.toNat_append, ← Nat.shiftLeft_add_eq_or_of_lt y.isLt, Nat.shiftLeft_eq]

/-- `PARAMS` for legal parameters, as a number (10_state.md R62). -/
theorem Params.word_toNat {p : Params} (h : p.wf = true) :
    p.word.toNat = p.cntW + 256 * p.lutAW + 65536 * p.acdW := by
  simp only [Params.wf, Bool.and_eq_true, decide_eq_true_eq] at h
  simp only [Params.word, toNat_append_eq_add, BitVec.toNat_ofNat]
  omega

/-- No event changes the parameters (00_scope.md R5). -/
theorem State.Served.params {s t : State} {e : HostEvent} (he : s.Served e t) : t.params = s.params := by
  cases he <;> simp

/-- Settles O57: the parameters stay, and PARAMS reads them alone. -/
theorem identificationIsConstant : Obligations.IdentificationIsConstant := by
  have reads : ∀ s : State, s.readReg .params = s.params.word := fun s => and_fullMask _
  refine ⟨fun s => and_fullMask _, fun s t h => ?_, fun s h => ?_⟩
  · have kept : t.params = s.params := by
      rcases step_next_cases h with rfl | ⟨_, _, he⟩
      · rfl
      · exact he.params
    exact ⟨kept, by rw [reads, reads, kept]⟩
  · have word := Params.word_toNat h
    simp only [Params.wf, Bool.and_eq_true, decide_eq_true_eq] at h
    intro w
    have hw : w = s.params.cntW + 256 * s.params.lutAW + 65536 * s.params.acdW := by rw [← word, ← reads]
    omega

/-! ### Reset (10_state.md R66) -/

/-- `STATUS` after reset: LOCK = NONE alone (10_state.md R66). -/
@[simp] theorem State.hardReset_statusWord (s : State) : s.hardReset.statusWord = 0x00000020#32 :=
  show State.reset.statusWord = 0x00000020#32 by decide

@[simp] theorem State.hardReset_faultInfoWord (s : State) : s.hardReset.faultInfoWord = 0#32 :=
  show State.reset.faultInfoWord = 0#32 by decide

/-- No word reads through the LUT port after reset (10_state.md R66). -/
@[simp] theorem State.hardReset_lutDataRead (s : State) : s.hardReset.lutDataRead = 0#32 := rfl

/-- Settles O55: the registers are read off the reset values. -/
theorem resetGivesEveryResetValue : Obligations.ResetGivesEveryResetValue := by
  intro s
  refine ⟨s.hardReset, rfl, rfl, and_fullMask _, ?_, and_fullMask _, rfl, ?_, fun _ => rfl, rfl, rfl, rfl, rfl⟩
  · simp
  · simp [State.readReg, State.regValue, lowHalf, highHalf]

end Sys2Proof.Machine
end

section
/-! The combinational outputs of the validator (10_state.md R57 to R61, R67; 40_frequency_validator.md R140 to R145). -/

namespace Sys2Proof.Machine

/-! ### The fields as numbers (30_encoding.md R105, R107) -/

theorem State.fieldF_eq (s : State) : s.fieldF = s.pllCtl.toNat % 8192 := by simp [State.fieldF, field_eq]

theorem State.fieldR_eq (s : State) : s.fieldR = s.pllCtl.toNat / 65536 % 64 := by simp [State.fieldR, field_eq]

theorem State.fieldOD_eq (s : State) : s.fieldOD = s.pllCtl.toNat / 16777216 % 8 := by simp [State.fieldOD, field_eq]

theorem State.fieldACD_eq (s : State) : s.fieldACD = s.pllAcd.toNat % 2 ^ s.params.acdW := keepLow_toNat _ _

/-- The pair the validator uses: `FRAC_INIT` in IDLE, else the active pair (40_frequency_validator.md R144). -/
theorem State.selectedPair_toNat (s : State) :
    s.selectedPair.toNat = if s.cfgOk then s.fracOut.toNat else s.fracInit.toNat % 65536 := by
  unfold State.selectedPair
  split
  · rfl
  · simp [State.initPair, BitVec.extractLsb'_toNat]

/-! ### VCHECK -/

/-- The bits of `VCHECK` (10_state.md R57). -/
theorem State.vcheckWord_bits (s : State) :
    s.vcheckWord.getLsbD 0 = s.fOk ∧ s.vcheckWord.getLsbD 1 = s.rOk ∧ s.vcheckWord.getLsbD 2 = s.odOk ∧
    s.vcheckWord.getLsbD 3 = pairOk s.selectedPair ∧ s.vcheckWord.getLsbD 4 = s.vcoLoOk ∧
    s.vcheckWord.getLsbD 5 = s.vcoHiOk ∧ s.vcheckWord.getLsbD 6 = s.allOk := by
  unfold State.vcheckWord
  refine ⟨?_, ?_, ?_, ?_, ?_, ?_, ?_⟩ <;>
    · iterate 7 rw [BitVec.getLsbD_append]
      simp [flagBit]

/-- `VCHECK` is 0 above its seven bits. -/
theorem State.vcheckWord_lt (s : State) : s.vcheckWord.toNat < 2 ^ 7 := by
  have bit : ∀ b, (flagBit b).toNat ≤ 1 := by decide
  have h₀ := bit s.fOk
  have h₁ := bit s.rOk
  have h₂ := bit s.odOk
  have h₃ := bit (pairOk s.selectedPair)
  have h₄ := bit s.vcoLoOk
  have h₅ := bit s.vcoHiOk
  have h₆ := bit s.allOk
  simp only [State.vcheckWord, toNat_append_eq_add, BitVec.toNat_ofNat]
  omega

/-- f < p says that the fractional term is below 1 (40_frequency_validator.md R142). -/
theorem lt_iff_term_lt_one (f p : Nat) : f < p ↔ ((f + 1 : Nat) : Rat) / ((p + 1 : Nat) : Rat) < 1 := by
  rw [div_lt_one (by positivity), Nat.cast_lt]
  omega

/-- Settles O13: each bit is its check, on fields of 6 and 3 bits for R and OD. -/
theorem vcheckBitsAreTheChecks : Obligations.VcheckBitsAreTheChecks := by
  intro s F R OD w f p v c
  have hc : c = s.vcheckWord := and_fullMask _
  have hF : s.fieldF = F := s.fieldF_eq
  have hR : s.fieldR = R := s.fieldR_eq
  have hOD : s.fieldOD = OD := s.fieldOD_eq
  have hpair : pairOk s.selectedPair = decide (f < p) := by
    rw [pairOk, pairF_eq, pairP_eq, s.selectedPair_toNat]
  have hv : s.vcoProduct = v := by rw [State.vcoProduct, hF, State.inHz]
  have hr : s.rOk = decide (R ≤ 63) := by rw [State.rOk, hR]
  have hod : s.odOk = decide (OD ≤ 7) := by rw [State.odOk, hOD]
  obtain ⟨b₀, b₁, b₂, b₃, b₄, b₅, b₆⟩ := s.vcheckWord_bits
  rw [hc, b₆, b₀, b₁, b₂, b₃, b₄, b₅]
  refine ⟨?_, hr, ?_, hod, ?_, hpair, lt_iff_term_lt_one f p, ?_, ?_, rfl, s.vcheckWord_lt⟩
  · rw [State.fOk, hF, Bool.decide_and]
  · exact hr.trans (decide_eq_true (by omega))
  · exact hod.trans (decide_eq_true (by omega))
  · rw [State.vcoLoOk, hR, hv]
  · rw [State.vcoHiOk, hR, hv]

/-! ### The frequency outputs -/

/-- A whole-hertz value: the quotient rounded down and saturated (00_scope.md R9, 40_frequency_validator.md R145). -/
theorem satU_floorDiv_toNat (a b : Nat) :
    (satU 32 (floorDiv (a : Int) (b : Int))).toNat = min (a / b) (2 ^ 32 - 1) := by
  rw [satU, floorDiv, clamp, ← Int.natCast_div]
  generalize a / b = q
  have clamped : min (max (q : Int) 0) (2 ^ 32 - 1) = ((min q (2 ^ 32 - 1) : Nat) : Int) := by omega
  rw [clamped, BitVec.ofInt_natCast, BitVec.toNat_ofNat]
  omega

theorem State.freqHz_toNat (s : State) :
    s.freqHz.toNat = min (s.freqNumOf s.selectedPair / s.freqDenOf s.selectedPair) (2 ^ 32 - 1) :=
  satU_floorDiv_toNat _ _

theorem State.vcoHz_toNat (s : State) : s.vcoHz.toNat = min (s.vcoProduct / (2 * (s.fieldR + 1))) (2 ^ 32 - 1) :=
  satU_floorDiv_toNat _ (2 * (s.fieldR + 1))

/-- The two halves of a 64-bit quantity make it (20_memory.md R75). -/
theorem halves_toNat (q : Wide) : (highHalf q).toNat * 2 ^ 32 + (lowHalf q).toNat = q.toNat := by
  have := q.isLt
  simp only [highHalf, lowHalf, BitVec.extractLsb'_toNat, Nat.shiftRight_eq_div_pow]
  omega

/-- The numerator fits 54 bits: 2^32 · (2^13 · 2^8 + 2^8) (40_frequency_validator.md R145). -/
theorem State.freqNumOf_lt (s : State) (w : Half) : s.freqNumOf w < 2 ^ 54 := by
  have hin : s.inHz < 2 ^ 32 := s.inFreq.isLt
  have hf : s.fieldF + 1 ≤ 2 ^ 13 := by rw [s.fieldF_eq]; omega
  have hp : pairP w + 1 ≤ 2 ^ 8 := by rw [pairP_eq]; omega
  have hpf : pairF w + 1 ≤ 2 ^ 8 := by have := w.isLt; rw [pairF_eq]; omega
  have factor : (s.fieldF + 1) * (pairP w + 1) + (pairF w + 1) ≤ 2 ^ 13 * 2 ^ 8 + 2 ^ 8 :=
    add_le_add (Nat.mul_le_mul hf hp) hpf
  calc s.freqNumOf w ≤ 2 ^ 32 * (2 ^ 13 * 2 ^ 8 + 2 ^ 8) := Nat.mul_le_mul hin.le factor
    _ < 2 ^ 54 := by norm_num

/-- The denominator for legal parameters: 4 at least, and 2^(2+8+6+3+12) at most (40_frequency_validator.md R145). -/
theorem State.freqDenOf_bounds {s : State} (hwf : s.params.wf = true) (w : Half) :
    4 ≤ s.freqDenOf w ∧ s.freqDenOf w ≤ 2 ^ 31 := by
  have hp : pairP w + 1 ≤ 2 ^ 8 := by rw [pairP_eq]; omega
  have hr : s.fieldR + 1 ≤ 2 ^ 6 := by rw [s.fieldR_eq]; omega
  have hod : s.fieldOD + 1 ≤ 2 ^ 3 := by rw [s.fieldOD_eq]; omega
  have hacd : s.fieldACD + 1 ≤ 2 ^ 12 := by
    simp only [Params.wf, Bool.and_eq_true, decide_eq_true_eq] at hwf
    rw [s.fieldACD_eq]
    exact (Nat.mod_lt _ (Nat.two_pow_pos _)).trans_le (Nat.pow_le_pow_right (by decide) hwf.2)
  refine ⟨?_, ?_⟩
  · have : 1 ≤ (pairP w + 1) * (s.fieldR + 1) * (s.fieldOD + 1) * (s.fieldACD + 1) := Nat.succ_le_of_lt (by positivity)
    rw [State.freqDenOf]
    linarith
  · calc s.freqDenOf w ≤ 4 * 2 ^ 8 * 2 ^ 6 * 2 ^ 3 * 2 ^ 12 :=
        Nat.mul_le_mul (Nat.mul_le_mul (Nat.mul_le_mul (Nat.mul_le_mul_left 4 hp) hr) hod) hacd
      _ = 2 ^ 31 := by norm_num

/-- Settles O14: both bounds keep the registers exact, and the quotients saturate. -/
theorem frequencyOutputsAreExact : Obligations.FrequencyOutputsAreExact := by
  intro s hwf F R OD ACD w f p num den
  have hF : s.fieldF = F := s.fieldF_eq
  have hR : s.fieldR = R := s.fieldR_eq
  have hf : pairF s.selectedPair = f := by rw [pairF_eq, s.selectedPair_toNat]
  have hp : pairP s.selectedPair = p := by rw [pairP_eq, s.selectedPair_toNat]
  have hnum : s.freqNumOf s.selectedPair = num := by rw [State.freqNumOf, hF, hf, hp, State.inHz]
  have hden : s.freqDenOf s.selectedPair = den := by
    rw [State.freqDenOf, hp, hR, s.fieldOD_eq, s.fieldACD_eq]
  have numBound := s.freqNumOf_lt s.selectedPair
  have denBounds := State.freqDenOf_bounds hwf s.selectedPair
  have hvco : s.vcoProduct = s.inFreq.toNat * (F + 1) := by rw [State.vcoProduct, hF, State.inHz]
  have whole : ∀ v : Word, (v &&& fieldMask 0 32).toNat = v.toNat := fun v => congrArg BitVec.toNat (and_fullMask v)
  refine ⟨hnum ▸ numBound, hden ▸ denBounds.1, hden ▸ denBounds.2, ?_, ?_, ?_, ?_⟩
  · calc (s.readReg .freqNumHi).toNat * 2 ^ 32 + (s.readReg .freqNumLo).toNat
        = (highHalf s.freqNum).toNat * 2 ^ 32 + (lowHalf s.freqNum).toNat :=
          congrArg₂ (fun hi lo => hi * 2 ^ 32 + lo) (whole _) (whole _)
      _ = s.freqNum.toNat := halves_toNat _
      _ = s.freqNumOf s.selectedPair := Nat.mod_eq_of_lt (numBound.trans (by decide))
      _ = num := hnum
  · calc (s.readReg .freqDen).toNat
        = s.freqDen.toNat := whole _
      _ = s.freqDenOf s.selectedPair := Nat.mod_eq_of_lt (denBounds.2.trans_lt (by decide))
      _ = den := hden
  · rw [← hnum, ← hden]
    exact (whole _).trans s.freqHz_toNat
  · rw [← hvco, ← hR]
    exact (whole _).trans s.vcoHz_toNat

/-! ### After reset (10_state.md R67) -/

/-- VALIDATE's checks on the reset configuration, F = R = OD = 0 and f = p = 0 (10_state.md R67). -/
theorem State.resetWith_vcheckWord (p : Params) : (State.resetWith p).vcheckWord = 0x00000026#32 :=
  show State.reset.vcheckWord = 0x00000026#32 by decide

/-- The denominator is 4 times four factors that are each 1 after reset, whatever `ACD_W` is (10_state.md R67). -/
theorem State.resetWith_freqDenOf (p : Params) (w : Half) (hw : pairP w = 0) : (State.resetWith p).freqDenOf w = 4 := by
  have acd : (State.resetWith p).fieldACD = 0 := by simp [State.fieldACD]
  have r : (State.resetWith p).fieldR = 0 := by simp [State.fieldR, field_eq]
  have od : (State.resetWith p).fieldOD = 0 := by simp [State.fieldOD, field_eq]
  simp [State.freqDenOf, acd, r, od, hw]

/-- Settles O56: with IN = 0 the numerator and both whole-hertz values are 0. -/
theorem combinationalOutputsAfterReset : Obligations.CombinationalOutputsAfterReset := by
  intro p _ s
  have vcheck := State.resetWith_vcheckWord p
  have num : ∀ w, (State.resetWith p).freqNumOf w = 0 := fun w => by simp [State.freqNumOf, State.inHz]
  have vco : (State.resetWith p).vcoProduct = 0 := by simp [State.vcoProduct, State.inHz]
  have den := State.resetWith_freqDenOf p (State.resetWith p).selectedPair rfl
  refine ⟨rfl, ?_, ?_, ?_, ?_, ?_, ?_⟩ <;> refine (and_fullMask _).trans ?_
  · exact vcheck
  · simp [s, State.regValue, State.freqNum, num, lowHalf]
  · simp [s, State.regValue, State.freqNum, num, highHalf]
  · simp [s, State.regValue, State.freqDen, den]
  · exact BitVec.eq_of_toNat_eq (by simp [s, State.regValue, State.freqHz_toNat, num])
  · exact BitVec.eq_of_toNat_eq (by simp [s, State.regValue, State.vcoHz_toNat, vco])

end Sys2Proof.Machine
end

section
/-! Steps (20_memory.md R79, 30_encoding.md R100, 70_reset_and_hazards.md R342): which event a step performs, and the
command it runs. -/

namespace Sys2Proof.Machine

/-- With no host event waiting the block does nothing (70_reset_and_hazards.md R342). -/
theorem step_of_pending_nil {s : State} (h : s.pending = []) : step s = .next s := by
  simp [step, State.serve, h]

/-- The first waiting event is taken and performed (20_memory.md R79). -/
theorem step_of_pending_cons {s : State} {e : HostEvent} {rest : List HostEvent} (h : s.pending = e :: rest) :
    step s = (s.dequeue rest).perform e := by
  simp [step, State.serve, h]

/-- Settles O3: the two cases of the waiting list. -/
theorem stepPerformsTheFirstWaitingEvent : Obligations.StepPerformsTheFirstWaitingEvent :=
  fun _ => ⟨step_of_pending_nil, fun _ _ => step_of_pending_cons⟩

/-- A command word that waits first is run (30_encoding.md R100). -/
theorem step_of_commandEvent {s : State} {v : Word} {i : Instr} {rest : List HostEvent}
    (hp : s.pending = commandEvent v :: rest) (hd : decode v = .ok i) :
    step s = exec i ((s.dequeue rest).respond .writeOk) := by
  rw [step_of_pending_cons hp, State.perform_command _ hd]

/-- What the decoder reads from a word of the opcode table (30_encoding.md R102). -/
theorem decodeTableWord_eq_some {nbits w : Nat} {i : Instr} (h : decodeTableWord nbits w = some i) :
    decode (BitVec.ofNat 32 (w % 2 ^ nbits)) = .ok i := by
  unfold decodeTableWord at h
  cases hd : decode (BitVec.ofNat 32 (w % 2 ^ nbits)) with
  | ok j =>
    rw [hd] at h
    exact congrArg Except.ok (Option.some.inj h)
  | error d =>
    rw [hd] at h
    cases h

/-- Settles O4: the waiting write is a command word, and `withFetchWord` puts one first. -/
theorem stepRunsTheDecodedCommand : Obligations.StepRunsTheDecodedCommand :=
  ⟨fun _ _ _ _ hp hd => step_of_commandEvent hp hd,
    fun s n w _ h => step_of_commandEvent (s := s.withFetchWord n w) rfl (decodeTableWord_eq_some h)⟩

end Sys2Proof.Machine
end

section
/-! Host accesses (20_memory.md R73, R75, R81 to R83): writes to read-only registers, writes repeated, reads, and the
64-bit quantities over runs without a command. -/

namespace Sys2Proof.Machine

/-! ### Writes without effect and repeated writes (20_memory.md R73, R83) -/

/-- A write to a register without a lock class other than `CMD` only completes, in FAULTED too. -/
theorem State.perform_readOnlyWrite (s : State) {r : Reg} (hk : r.lockClass? = none) (hcmd : r ≠ .cmd) (v : Word) :
    s.perform (.write r.offset 4 v) = .next (s.respond .writeOk) := by
  cases hf : s.fault with
  | true => exact s.perform_write_faulted hf (busError_offset r)
  | false =>
    rw [s.perform_write hf hcmd]
    simp [State.writeReg, hk]

/-- `CMD` is write-only (20_memory.md R73). -/
theorem State.readReg_cmd (s : State) : s.readReg .cmd = 0#32 := and_fullMask _

/-- Settles O21: the listed registers have no lock class and are not `CMD`. -/
theorem readOnlyWritesHaveNoEffect : Obligations.ReadOnlyWritesHaveNoEffect := by
  refine ⟨fun s r v hr => ?_, fun s => ?_⟩
  · obtain ⟨hk, hcmd⟩ : r.lockClass? = none ∧ r ≠ .cmd := by
      revert r
      decide
    exact s.perform_readOnlyWrite hk hcmd v
  · rw [s.perform_read, s.readReg_cmd]
    rfl

/-- A locked register ignores the write (10_state.md R64). -/
theorem State.writeReg_locked {s : State} {r : Reg} {k : LockClass} (hk : r.lockClass? = some k)
    (hl : s.unlocked k = false) (v : Word) : s.writeReg r v = s.ignoreWrite := by
  simp [State.writeReg, hk, hl]

/-- An unlocked plain register stores the masked value (10_state.md R64, R65). -/
theorem State.writeReg_stored {s : State} {r : Reg} {k : LockClass} (hr : r ≠ .lutData) (hk : r.lockClass? = some k)
    (hu : s.unlocked k = true) (v : Word) : s.writeReg r v = s.storeReg r (v &&& r.mask s.params) := by
  simp [State.writeReg, hk, hu, hr]

@[simp] theorem State.unlocked_ignoreWrite (s : State) (k : LockClass) : s.ignoreWrite.unlocked k = s.unlocked k := by
  cases k <;> rfl

/-- No register write moves a lock: the mode flags change by commands and reset only (10_state.md R64). -/
@[simp] theorem State.unlocked_storeReg (s : State) (r : Reg) (v : Word) (k : LockClass) :
    (s.storeReg r v).unlocked k = s.unlocked k := by
  cases k <;> simp [State.unlocked]

/-- The second of two stores to one register wins. -/
@[simp] theorem State.storeReg_storeReg (s : State) (r : Reg) (v w : Word) :
    (s.storeReg r v).storeReg r w = s.storeReg r w := by
  cases r <;> rfl

@[simp] theorem State.storeReg_response (s : State) (r : Reg) (v : Word) : (s.storeReg r v).response = s.response := by
  cases r <;> rfl

@[simp] theorem State.writeReg_response (s : State) (r : Reg) (v : Word) : (s.writeReg r v).response = s.response := by
  rcases s.writeReg_cases r v with ⟨_, h⟩ | ⟨_, _, _, h⟩ | ⟨_, _, h⟩ | ⟨_, _, _, _, h⟩ <;> simp [h]

@[simp] theorem State.writeReg_fault (s : State) (r : Reg) (v : Word) : (s.writeReg r v).fault = s.fault := by
  rcases s.writeReg_cases r v with ⟨_, h⟩ | ⟨_, _, _, h⟩ | ⟨_, _, h⟩ | ⟨_, _, _, _, h⟩ <;> simp [h]

/-- A register write repeated changes nothing more, but through the LUT port, whose pointer moves (20_memory.md R83). -/
theorem State.writeReg_writeReg (s : State) {r : Reg} (hr : r ≠ .lutData) (v : Word) :
    (s.writeReg r v).writeReg r v = s.writeReg r v := by
  rcases s.writeReg_cases r v with ⟨_, h⟩ | ⟨k, hk, hl, h⟩ | ⟨hd, _, _⟩ | ⟨k, _, hk, hu, h⟩
  · rw [h, h]
  · rw [h, State.writeReg_locked hk (by simpa using hl)]
    rfl
  · exact absurd hd hr
  · rw [h, State.writeReg_stored hr hk (by simpa using hu)]
    simp

/-- An answer given again is the same answer. -/
theorem State.respond_of_response {s : State} {r : Response} (h : s.response = r) : s.respond r = s := by
  subst h
  rfl

/-- Settles O24: in FAULTED the write only completes, else it is a register write made twice. -/
theorem repeatedRegisterWriteIsIdempotent : Obligations.RepeatedRegisterWriteIsIdempotent := by
  intro s t r v hcmd hdata h
  cases hf : s.fault with
  | true =>
    obtain rfl := Host.Outcome.next.inj ((s.perform_write_faulted hf (busError_offset r)).symm.trans h)
    exact State.perform_write_faulted _ hf (busError_offset r)
  | false =>
    obtain rfl := Host.Outcome.next.inj ((s.perform_write hf hcmd).symm.trans h)
    rw [State.perform_write _ (by simpa using hf) hcmd, State.respond_of_response (by simp),
      State.writeReg_writeReg _ hdata]

/-! ### Reads (20_memory.md R82) -/

/-- What every event of a run leaves as it is, the run leaves as it is. -/
theorem State.runEvents_fixes {α : Type} {f : State → α} {Q : HostEvent → Prop}
    (fixes : ∀ s t e, Q e → s.perform e = .next t → f t = f s) {es : List HostEvent} {s t : State}
    (hq : ∀ e ∈ es, Q e) (h : s.runEvents es = .next t) : f t = f s :=
  State.runEvents_keeps (P := fun u => f u = f s) (fun u v e he hu hp => (fixes u v e he hp).trans hu) es s t hq rfl h

/-- No read shows the block's last answer (log 3). -/
@[simp] theorem State.memRead_respond (s : State) (r : Response) (a : Offset) (n : Nat) :
    (s.respond r).memRead a n = s.memRead a n := by
  simp [State.memRead, State.readReg]

/-- A read changes the answer alone. -/
theorem State.perform_isRead {s t : State} {e : HostEvent} (he : isRead e = true) (h : s.perform e = .next t)
    (r : Response) : t.respond r = s.respond r := by
  cases e with
  | read a n =>
    obtain rfl := Host.Outcome.next.inj h
    rfl
  | write | reset => cases he

/-- Settles O25: over a run of reads the state is fixed up to its answer, which no read shows. -/
theorem readsHaveNoSideEffect : Obligations.ReadsHaveNoSideEffect := by
  refine ⟨fun _ _ _ => rfl, fun es s t hreads h => ?_⟩
  have frame : t.respond t.response = s.respond t.response :=
    State.runEvents_fixes (f := fun u => u.respond t.response) (fun _ _ _ he hp => State.perform_isRead he hp _) hreads h
  refine ⟨frame, fun a n => ?_⟩
  rw [← t.memRead_respond t.response, frame, s.memRead_respond]

/-! ### The halves of the 64-bit quantities (20_memory.md R75, R81) -/

/-- The 64-bit quantity of a name (20_memory.md R75). -/
def State.wide (s : State) : WideName → Wide
  | .acc => s.acc
  | .acc2 => s.acc2
  | .limitI => s.limitI
  | .limitII => s.limitII
  | .freqNum => s.freqNum

/-- Its two registers read its two halves. -/
theorem State.readReg_halves (s : State) (q : WideName) :
    s.readReg q.halves.1 = lowHalf (s.wide q) ∧ s.readReg q.halves.2 = highHalf (s.wide q) := by
  cases q <;> exact ⟨and_fullMask _, and_fullMask _⟩

/-- The two halves side by side make the quantity. -/
theorem highHalf_append_lowHalf (q : Wide) : (highHalf q ++ lowHalf q : BitVec 64) = q :=
  BitVec.extractLsb'_append_extractLsb' (w := 32) (len := 32)

theorem writesReg_offset (r : Reg) (v : Word) : writesReg r (.write r.offset 4 v) = true := by simp [writesReg]

@[simp] theorem State.storeReg_acc (s : State) (r : Reg) (v : Word) : (s.storeReg r v).acc = s.acc := by
  cases r <;> rfl

@[simp] theorem State.storeReg_acc2 (s : State) (r : Reg) (v : Word) : (s.storeReg r v).acc2 = s.acc2 := by
  cases r <;> rfl

/-- What `FREQ_NUM` reads (40_frequency_validator.md R144, R145). -/
theorem State.freqNum_congr {s t : State} (hin : t.inFreq = s.inFreq) (hctl : t.pllCtl = s.pllCtl)
    (hfrac : t.fracInit = s.fracInit) (hcfg : t.cfgOk = s.cfgOk) (hout : t.fracOut = s.fracOut) :
    t.freqNum = s.freqNum := by
  simp only [State.freqNum, State.freqNumOf, State.selectedPair, State.initPair, State.inHz, State.fieldF, hin, hctl,
    hfrac, hcfg, hout]

/-- A stored write to a register that is not of class C does not reach `FREQ_NUM`. -/
theorem State.freqNum_storeReg (s : State) {r : Reg} {v w : Word} (h : writesClassC (.write r.offset 4 w) = false) :
    (s.storeReg r v).freqNum = s.freqNum := by
  simp only [writesClassC, Bool.or_eq_false_iff] at h
  obtain ⟨⟨⟨hin, hctl⟩, _⟩, hfrac⟩ := h
  have other : ∀ {r' : Reg}, writesReg r' (.write r.offset 4 w) = false → r' ∉ Reg.computed →
      (s.storeReg r v).regValue r' = s.regValue r' := fun hr' hc =>
    s.regValue_storeReg_other v (by rintro rfl; cases (writesReg_offset _ w).symm.trans hr') hc
  exact State.freqNum_congr (other (r' := .inFreq) hin (by decide)) (other (r' := .pllCtl) hctl (by decide))
    (other (r' := .fracInit) hfrac (by decide)) (by simp) (by simp)

/-- Only a command, reset and, for `FREQ_NUM`, a write of class C change a 64-bit quantity (20_memory.md R81). -/
theorem State.Served.wide {s t : State} {e : HostEvent} (he : s.Served e t) {q : WideName}
    (hcmd : writesReg .cmd e = false) (hreset : e ≠ .reset) (hq : q = .freqNum → writesClassC e = false) :
    t.wide q = s.wide q := by
  cases he with
  | answered | refused | ignored | loaded => cases q <;> rfl
  | ran => cases (writesReg_offset .cmd _).symm.trans hcmd
  | stored =>
    cases q with
    | acc | acc2 | limitI | limitII => simp [State.wide]
    | freqNum => exact State.freqNum_storeReg _ (hq rfl)
  | wasReset => exact absurd rfl hreset

/-- Settles O26: the quantity is the same at both reads, and each half is read off it. -/
theorem halvesReadWithoutCommandAreConsistent : Obligations.HalvesReadWithoutCommandAreConsistent := by
  intro es s t hes h
  have consistent : ∀ q : WideName, (q = .freqNum → ∀ e ∈ es, writesClassC e = false) →
      (t.readReg q.halves.2 ++ s.readReg q.halves.1 : BitVec 64) = s.wide q ∧ t.wide q = s.wide q := by
    intro q hq
    have kept : t.wide q = s.wide q :=
      State.runEvents_fixes (f := fun u => u.wide q)
        (Q := fun e => (writesReg .cmd e = false ∧ e ≠ .reset) ∧ (q = .freqNum → writesClassC e = false))
        (fun _ _ _ ⟨⟨hcmd, hreset⟩, hc⟩ hp => (State.served_of_perform hp).wide hcmd hreset hc)
        (fun e he => ⟨hes e he, fun e' => hq e' e he⟩) h
    obtain ⟨low, -⟩ := s.readReg_halves q
    obtain ⟨-, high⟩ := t.readReg_halves q
    rw [high, low, kept, highHalf_append_lowHalf]
    exact ⟨rfl, rfl⟩
  obtain ⟨acc, acc'⟩ := consistent .acc nofun
  obtain ⟨acc2, acc2'⟩ := consistent .acc2 nofun
  obtain ⟨limitI, limitI'⟩ := consistent .limitI nofun
  obtain ⟨limitII, limitII'⟩ := consistent .limitII nofun
  exact ⟨acc, acc', acc2, acc2', limitI, limitI', limitII, limitII', fun hc => consistent .freqNum fun _ => hc⟩

end Sys2Proof.Machine
end

section
/-! The LUT port (20_memory.md R76 to R78, 30_encoding.md R116, 41_lut.md R171): `LUT_ADDR`, `LUT_DATA`, and a table
loaded through them. -/

namespace Sys2Proof.Machine

@[simp] theorem State.readReg_lutData (s : State) : s.readReg .lutData = s.lutDataRead :=
  (s.regValue_eq_readReg (by decide)).symm

/-- Settles O27: `LUT_DATA` reads the word at the pointer, or 0. -/
theorem lutDataReadsTheWordAtThePointer : Obligations.LutDataReadsTheWordAtThePointer := by
  intro s
  have reads : ∀ d : Word, s.lutDataRead = d →
      s.perform (.read 0x3C#8 4) = .next { s with response := .readOk d } := by
    rintro _ rfl
    rw [← s.readReg_lutData]
    exact s.perform_read .lutData
  rw [← lutPointer_eq]
  exact ⟨fun w hw => reads _ (by simp [State.lutDataRead, hw]), fun hw => reads _ (by simp [State.lutDataRead, hw])⟩

/-- A write of `LUT_ADDR` with FAULT = 0 (20_memory.md R78). -/
theorem State.perform_lutAddr {s : State} (hf : s.fault = false) (v : Word) :
    s.perform (.write Reg.lutAddr.offset 4 v) =
      .next { s with lutAddr := keepLow s.params.lutAW v, response := .writeOk } :=
  State.perform_storedWrite (k := .o) hf (by decide) rfl rfl v

/-- Settles O29: class O is never locked, and the mask keeps the low bits. -/
theorem lutAddrStoresTheLowBits : Obligations.LutAddrStoresTheLowBits :=
  ⟨fun _ v hf => ⟨_, State.perform_lutAddr hf v, keepLow_toNat _ v, rfl⟩, lutPointer_lt⟩

/-- A write of `LUT_DATA` with FAULT = 0 and READY = 0 (20_memory.md R77). -/
theorem State.perform_lutData {s : State} (hf : s.fault = false) (hr : s.ready = false) (v : Word) :
    s.perform (.write Reg.lutData.offset 4 v) = .next ((s.respond .writeOk).storeLutData v) := by
  rw [s.perform_write hf (by decide)]
  simp [State.writeReg, Reg.lockClass?, State.unlocked, hr]

/-- An index of the table as `LUT_ADDR` holds it loses nothing, for legal parameters (00_scope.md R5). -/
theorem Params.ofNat_mod_lutMax_toNat {p : Params} (h : p.wf = true) (n : Nat) :
    (BitVec.ofNat 32 (n % p.lutMax)).toNat = n % 2 ^ p.lutAW :=
  Nat.mod_eq_of_lt ((Nat.mod_lt n (Nat.two_pow_pos _)).trans (Params.two_pow_lutAW_lt h))

/-- Settles O28: with READY = 0 the port stores and advances, with READY = 1 its class is locked. -/
theorem lutDataWritesTheWordAndAdvances : Obligations.LutDataWritesTheWordAndAdvances := by
  intro s v hwf hf i
  have pointer : (s.respond .writeOk).lutPointer = i := lutPointer_eq _
  refine ⟨fun hr => ⟨_, State.perform_lutData hf hr v, ?_, ?_, ?_, ?_, rfl⟩, fun hr => ?_⟩
  · rw [State.storeLutData_lut, pointer, Memory.word?_setWord_same, BitVec.setWidth_eq_extractLsb' (by decide)]
  · rw [State.storeLutData_lutAddr, pointer]
    exact Params.ofNat_mod_lutMax_toNat hwf _
  · intro j hj
    rw [State.storeLutData_lut, pointer, Memory.word?_setWord_other _ _ hj, State.respond_lut]
  · intro a hlow hhigh
    rw [State.storeLutData_lut, pointer, Memory.read_setWord_other _ _ hlow hhigh, State.respond_lut]
  · exact ⟨.writeOk, State.perform_lockedWrite (r := .lutData) (k := .l) hf rfl (by simp [State.unlocked, hr]) v⟩

/-! ### Loading a table (30_encoding.md R116, `LOADLUT`) -/

/-- Words written at consecutive indices from `i` on (20_memory.md R77). -/
def Memory.setWords (m : Memory) (i : Nat) : List Half → Memory
  | [] => m
  | w :: ws => (m.setWord i w).setWords (i + 1) ws

/-- Consecutive writes leave every word outside their range alone. -/
theorem Memory.word?_setWords_other (m : Memory) {i j : Nat} (ws : List Half) (h : j < i ∨ i + ws.length ≤ j) :
    (m.setWords i ws).word? j = m.word? j := by
  induction ws generalizing m i with
  | nil => rfl
  | cons w ws ih =>
    rw [List.length_cons] at h
    rw [Memory.setWords, ih _ (by omega), Memory.word?_setWord_other _ _ (by omega)]

/-- Consecutive writes put word `k` at `i + k`. -/
theorem Memory.word?_setWords_getElem? (m : Memory) (i : Nat) {ws : List Half} {k : Nat} {w : Half}
    (h : ws[k]? = some w) : (m.setWords i ws).word? (i + k) = some w := by
  induction ws generalizing m i k with
  | nil => simp at h
  | cons v ws ih =>
    rw [Memory.setWords]
    cases k with
    | zero =>
      obtain rfl : v = w := by simpa using h
      rw [Memory.word?_setWords_other _ _ (by omega)]
      exact Memory.word?_setWord_same m i v
    | succ k =>
      have := ih (m.setWord i v) (i + 1) (k := k) (by simpa using h)
      rwa [show i + (k + 1) = i + 1 + k by omega]

/-- `s` with its LUT at `m` and the port's pointer at `i` modulo `LUT_MAX`, a write answered. -/
def State.withPort (m : Memory) (i : Nat) (s : State) : State :=
  { s with lut := m, lutAddr := BitVec.ofNat 32 (i % s.params.lutMax), response := .writeOk }

/-- `LUT_ADDR` written with an index places the pointer there. -/
theorem State.perform_lutAddr_index {s : State} (hf : s.fault = false) {i : Nat} (hi : i < s.params.lutMax)
    (hwf : s.params.wf = true) :
    s.perform (.write Reg.lutAddr.offset 4 (lineValue i)) = .next (s.withPort s.lut i) := by
  have low : keepLow s.params.lutAW (lineValue i) = BitVec.ofNat 32 (i % s.params.lutMax) := by
    refine BitVec.eq_of_toNat_eq ?_
    have fits : i < 2 ^ 32 := hi.trans (Params.two_pow_lutAW_lt hwf)
    rw [keepLow_toNat, Params.ofNat_mod_lutMax_toNat hwf, lineValue, BitVec.ofInt_natCast, BitVec.toNat_ofNat,
      Nat.mod_eq_of_lt fits]
  rw [State.perform_lutAddr hf, low]
  rfl

/-- The write that placed the pointer is answered already. -/
theorem State.respond_withPort (s : State) (m : Memory) (i : Nat) :
    (s.withPort m i).respond .writeOk = s.withPort m i := rfl

/-- The port uses the index where the pointer stands. -/
theorem State.withPort_lutPointer {s : State} (hwf : s.params.wf = true) (m : Memory) {i : Nat}
    (hi : i < s.params.lutMax) : (s.withPort m i).lutPointer = i :=
  calc (s.withPort m i).lutPointer
      = (BitVec.ofNat 32 (i % s.params.lutMax)).toNat % 2 ^ s.params.lutAW := lutPointer_eq _
    _ = i % 2 ^ s.params.lutAW % 2 ^ s.params.lutAW := by rw [Params.ofNat_mod_lutMax_toNat hwf]
    _ = i := (Nat.mod_mod _ _).trans (Nat.mod_eq_of_lt hi)

/-- A LUT word given as a value of a line is the word stored (30_encoding.md R115). -/
theorem lineValue_half (w : Half) : (lineValue (w.toNat : Int)).extractLsb' 0 16 = w := by
  have := w.isLt
  refine BitVec.eq_of_toNat_eq ?_
  simp only [lineValue, BitVec.ofInt_natCast, BitVec.extractLsb'_toNat, BitVec.toNat_ofNat, Nat.shiftRight_zero]
  omega

/-- `LUT_DATA` written with a word stores it at the pointer and moves on to the next index. -/
theorem State.perform_lutData_withPort {s : State} (hf : s.fault = false) (hr : s.ready = false)
    (hwf : s.params.wf = true) (m : Memory) {i : Nat} (hi : i < s.params.lutMax) (w : Half) :
    (s.withPort m i).perform (.write Reg.lutData.offset 4 (lineValue (w.toNat : Int))) =
      .next (s.withPort (m.setWord i w) (i + 1)) := by
  rw [State.perform_lutData (s := s.withPort m i) hf hr, State.respond_withPort, State.storeLutData,
    State.withPort_lutPointer hwf m hi, lineValue_half]
  rfl

/-- The words of `LOADLUT` one after another. -/
theorem State.runEvents_lutData {s : State} (hf : s.fault = false) (hr : s.ready = false) (hwf : s.params.wf = true)
    (m : Memory) {i : Nat} {ws : List Half} (hi : i + ws.length ≤ s.params.lutMax) :
    (s.withPort m i).runEvents (ws.map fun w => .write Reg.lutData.offset 4 (lineValue (w.toNat : Int))) =
      .next (s.withPort (m.setWords i ws) (i + ws.length)) := by
  induction ws generalizing m i with
  | nil => rfl
  | cons w ws ih =>
    rw [List.length_cons] at hi
    rw [List.map_cons, State.runEvents_cons _ (State.perform_lutData_withPort hf hr hwf m (by omega) w),
      ih _ (by omega), Memory.setWords, List.length_cons, Nat.add_assoc, Nat.add_comm 1]

/-- Settles O30: `LUT_ADDR` places the pointer, and each word moves it on. -/
theorem loadLutFillsConsecutiveEntries : Obligations.LoadLutFillsConsecutiveEntries := by
  intro s first ws hwf hf hr hfits hne
  have hpos := List.length_pos_iff.mpr hne
  have events : (Line.loadLut first (ws.map fun w => (w.toNat : Int))).events =
      .write Reg.lutAddr.offset 4 (lineValue first) ::
        ws.map fun w => .write Reg.lutData.offset 4 (lineValue (w.toNat : Int)) := by
    simp [Line.events, Line.triples, wrTriple, Triple.event]
  have hfirst : first < s.params.lutMax := by unfold Params.lutMax; omega
  refine ⟨s.withPort (s.lut.setWords first ws) (first + ws.length), ?_, ?_, ?_, ?_, rfl⟩
  · rw [events, State.runEvents_cons _ (State.perform_lutAddr_index hf hfirst hwf),
      State.runEvents_lutData hf hr hwf _ hfits]
  · exact fun k w hk => s.lut.word?_setWords_getElem? first hk
  · exact fun j hj => s.lut.word?_setWords_other ws hj
  · exact Params.ofNat_mod_lutMax_toNat hwf _

end Sys2Proof.Machine
end

section
/-! The encodings (30_encoding.md R100 to R109, R115, R116): command words, the words of a pseudo-instruction, the
status and cause codes, and the layout of a pair. -/

namespace Sys2Proof.Machine

/-! ### Command words (30_encoding.md R100 to R104) -/

/-- The reserved field as a number (30_encoding.md R100). -/
theorem rsvdField_toNat (w : Word) : (rsvdField w).toNat = w.toNat / 16 := by
  have := w.isLt
  simp only [rsvdField, BitVec.extractLsb'_toNat, Nat.shiftRight_eq_div_pow]
  omega

/-- The OP field as a number (30_encoding.md R100). -/
theorem opField_toNat (w : Word) : (opField w).toNat = w.toNat % 16 := by
  simp [opField, BitVec.extractLsb'_toNat]

/-- The reserved field is zero in the words 0 to 15 only (30_encoding.md R101). -/
theorem rsvdField_eq_zero_iff (w : Word) : rsvdField w = 0#28 ↔ w.toNat < 16 := by
  rw [← BitVec.toNat_inj, rsvdField_toNat, BitVec.toNat_ofNat]
  omega

/-- A word with a reserved bit set is refused whatever its OP field (30_encoding.md R101). -/
theorem decode_of_le {w : Word} (h : 16 ≤ w.toNat) : decode w = .error .reservedBits :=
  if_pos (mt (rsvdField_eq_zero_iff w).mp (Nat.not_lt.mpr h))

/-- A word without reserved bits is its OP field (30_encoding.md R102, R103). -/
theorem decode_of_lt {w : Word} (h : w.toNat < 16) : decode w = decodeOp (opField w) :=
  if_neg (not_not.mpr ((rsvdField_eq_zero_iff w).mpr h))

/-- What the opcode map refuses, it refuses for the code itself, 7 to 15 (30_encoding.md R103). -/
theorem decodeOp_eq_error_iff (op : BitVec 4) (d : DecodeError) :
    decodeOp op = .error d ↔ 7 ≤ op.toNat ∧ d = .reservedOp op := by
  unfold decodeOp
  split
  case h_8 =>
    have unassigned : 7 ≤ op.toNat := by grind
    simp [unassigned, eq_comm]
  all_goals simp [*]

/-- The words that are commands (30_encoding.md R102, R104). -/
theorem decode_eq_ok_iff (w : Word) (i : Instr) : decode w = .ok i ↔ w = encode i := by
  refine ⟨eq_encode_of_decode, ?_⟩
  rintro rfl
  exact decode_commandWord i

/-- The words refused for their reserved bits (30_encoding.md R101). -/
theorem decode_eq_reservedBits_iff (w : Word) : decode w = .error .reservedBits ↔ 16 ≤ w.toNat := by
  refine ⟨fun h => ?_, decode_of_le⟩
  by_contra hlt
  rw [decode_of_lt (Nat.not_le.mp hlt), decodeOp_eq_error_iff] at h
  cases h.2

/-- The words refused for their OP field (30_encoding.md R103). -/
theorem decode_eq_reservedOp_iff (w : Word) (op : BitVec 4) :
    decode w = .error (.reservedOp op) ↔ 7 ≤ w.toNat ∧ w.toNat < 16 ∧ op.toNat = w.toNat := by
  by_cases hlt : w.toNat < 16
  · have whole : (opField w).toNat = w.toNat := by rw [opField_toNat, Nat.mod_eq_of_lt hlt]
    rw [decode_of_lt hlt, decodeOp_eq_error_iff, DecodeError.reservedOp.injEq, ← BitVec.toNat_inj, whole]
    simp only [hlt, true_and]
  · rw [decode_of_le (Nat.not_lt.mp hlt)]
    simp [hlt]

/-- Settles O2, by the three sets of words. -/
theorem decodingIsTotalAndExact : Obligations.DecodingIsTotalAndExact :=
  fun w => ⟨decode_eq_ok_iff w, decode_eq_reservedBits_iff w, decode_eq_reservedOp_iff w⟩

/-- Settles O1, each word being the encoding of its command. -/
theorem commandWordsDecodeToTheirCommands : Obligations.CommandWordsDecodeToTheirCommands :=
  ⟨decode_commandWord .nop, decode_commandWord .validate, decode_commandWord .build, decode_commandWord .init,
    decode_commandWord .tick, decode_commandWord .resolve, decode_commandWord .clear⟩

/-- Either ground of refusal makes the word no command (30_encoding.md R101, R103). -/
theorem decode_refuses {w : Word} (h : w.toNat / 16 ≠ 0 ∨ 7 ≤ w.toNat % 16) : ∃ d, decode w = .error d := by
  by_cases hlt : w.toNat < 16
  · have hop : 7 ≤ (opField w).toNat := by rw [opField_toNat]; omega
    exact ⟨_, (decode_of_lt hlt).trans ((decodeOp_eq_error_iff _ _).mpr ⟨hop, rfl⟩)⟩
  · exact ⟨_, decode_of_le (Nat.not_lt.mp hlt)⟩

/-- Settles O6: the refused word raises `CmdErr`, and only its own encoding decodes to `NOP`. -/
theorem refusedWordSetsOnlyCommandError : Obligations.RefusedWordSetsOnlyCommandError :=
  ⟨fun _ _ hf hv => ⟨.writeOk, State.perform_refusedWord hf (.inl (decode_refuses hv))⟩,
    fun w => decode_eq_ok_iff w .nop⟩

/-! ### Pseudo-instructions (30_encoding.md R115, R116) -/

/-- `LOADLUT` is the pointer and then one write per word (30_encoding.md R116). -/
theorem events_loadLut (a : Int) (ws : List Int) :
    (Line.loadLut a ws).events = .write Reg.lutAddr.offset 4 (lineValue a) ::
      ws.map fun w => .write Reg.lutData.offset 4 (lineValue w) := by
  simp [Line.events, Line.triples, wrTriple, Triple.event]

/-- Settles O31: every line but `LOADLUT` has a fixed number of accesses, so its expansion is the definition's. -/
theorem pseudoInstructionsExpandExactly : Obligations.PseudoInstructionsExpandExactly :=
  ⟨rfl, rfl, rfl, rfl, rfl, fun _ => rfl, fun _ _ => rfl, fun _ => rfl, events_loadLut, rfl, rfl, rfl, rfl, rfl⟩

/-! ### Codes (30_encoding.md R108, R109) -/

/-- Settles O53, code by code. -/
theorem lockAndCauseCodes : Obligations.LockAndCauseCodes :=
  ⟨rfl, rfl, rfl, rfl, rfl, rfl, rfl, rfl, rfl, rfl, rfl, rfl, rfl, rfl, rfl, rfl, rfl, rfl⟩

/-! ### Pairs (30_encoding.md R105) -/

/-- A pair as a number. -/
theorem toNat_eq_pair (w : Half) : w.toNat = pairF w * 256 + pairP w := by
  rw [pairF_eq, pairP_eq]
  omega

/-- A pair written from two bytes, as a number. -/
theorem pairWord_toNat {f p : Nat} (hf : f < 256) (hp : p < 256) : (pairWord f p).toNat = f * 256 + p := by
  rw [pairWord, BitVec.toNat_ofNat, Nat.mod_eq_of_lt (by omega)]

/-- Encoding after decoding gives the pair back. -/
theorem pairWord_pairF_pairP (w : Half) : pairWord (pairF w) (pairP w) = w := by
  rw [pairWord, ← toNat_eq_pair, BitVec.ofNat_toNat, BitVec.setWidth_eq]

/-- `FRAC_INIT` reads as its pair (10_state.md R36). -/
theorem State.readReg_fracInit_toNat (s : State) : (s.readReg .fracInit).toNat = s.initPair.toNat :=
  calc (s.readReg .fracInit).toNat
      = s.fracInit.toNat % 2 ^ 16 := keepLow_toNat 16 s.fracInit
    _ = s.initPair.toNat := by simp [State.initPair, BitVec.extractLsb'_toNat]

/-- `FRAC_OUT` reads as the active pair (10_state.md R48). -/
theorem State.readReg_fracOut_toNat (s : State) : (s.readReg .fracOut).toNat = s.fracOut.toNat := by
  rw [State.readReg_fracOut, BitVec.toNat_setWidth_of_le (by decide)]

/-- Settles O54: a pair is the number f·256 + p. -/
theorem pairLayoutRoundTrips : Obligations.PairLayoutRoundTrips := by
  refine ⟨fun w => ⟨pairF_eq w, pairP_eq w, pairWord_pairF_pairP w⟩, fun f p hf hp => ?_, fun s => ⟨?_, ?_⟩⟩
  · have word := pairWord_toNat hf hp
    refine ⟨word, ?_, ?_⟩
    · rw [pairF_eq, word]
      omega
    · rw [pairP_eq, word]
      omega
  · rw [s.readReg_fracInit_toNat, toNat_eq_pair]
  · rw [s.readReg_fracOut_toNat, toNat_eq_pair]

end Sys2Proof.Machine
end

section
/-! The properties of the validator that the other parts rely on (40_frequency_validator.md R146 to R148): VALIDATE's
next state, the order of frequencies, and the validity of a validated configuration. -/

namespace Sys2Proof.Machine

/-! ### VALIDATE (40_frequency_validator.md R146) -/

/-- The pair of `FRAC_INIT` is its low half (10_state.md R36). -/
theorem State.initPair_eq_setWidth (s : State) : s.initPair = s.fracInit.setWidth 16 :=
  (BitVec.setWidth_eq_extractLsb' (by decide)).symm

/-- VALIDATE's checks as propositions, in their order. -/
theorem State.validate_eq (s : State) :
    s.validate =
      if ¬(1 ≤ s.fieldF ∧ s.fieldF ≤ 8191) then s.raiseFault .cfgFRange 0
      else if ¬pairF s.initPair < pairP s.initPair then s.raiseFault .cfgFrac 0
      else if s.vcoProduct < 720000000 * (s.fieldR + 1) then s.raiseFault .cfgVcoLow 0
      else if s.vcoProduct > 3600000000 * (s.fieldR + 1) then s.raiseFault .cfgVcoHigh 0
      else s.passValidate := by
  have range : s.fOk = decide (1 ≤ s.fieldF ∧ s.fieldF ≤ 8191) := (Bool.decide_and _ _).symm
  simp only [State.validate, State.configFault?, range, pairOk, State.vcoLoOk, State.vcoHiOk, Bool.not_eq_true',
    decide_eq_false_iff_not, not_le, gt_iff_lt]
  split_ifs <;> rfl

/-- Settles O11: the refusal is the frame's, and the fields that the checks compare are the register bits. -/
theorem validateChecksThenLocks : Obligations.ValidateChecksThenLocks := by
  intro s hf
  refine ⟨fun hc => ?_, fun hc => ?_⟩
  · rw [exec_eq]
    simp [hf, hc, Instr.allowed, State.raiseCmdErr]
  · intro F R f p v
    have hF : s.fieldF = F := s.fieldF_eq
    have hR : s.fieldR = R := s.fieldR_eq
    have hpair : s.initPair.toNat = s.fracInit.toNat % 65536 := by
      rw [s.initPair_eq_setWidth, BitVec.toNat_setWidth]
    have hf' : pairF s.initPair = f := by rw [pairF_eq, hpair]; omega
    have hp : pairP s.initPair = p := by rw [pairP_eq, hpair]; omega
    have hv : s.vcoProduct = v := by rw [State.vcoProduct, hF, State.inHz]
    have passes : s.passValidate = { s with cfgOk := true, fracOut := s.fracInit.setWidth 16 } := by
      rw [State.passValidate, s.initPair_eq_setWidth]
    have runs : exec .validate s = .next s.validate := by
      rw [exec_eq]
      simp [hf, hc, Instr.allowed, Instr.effect]
    rw [runs, s.validate_eq, hF, hR, hf', hp, hv, passes]
    rfl

/-! ### The order of frequencies (40_frequency_validator.md R147) -/

/-- The fractional term (f+1)/(p+1) of a pair, exactly (30_encoding.md R105). -/
def fracTerm (w : Half) : Rat := ((pairF w + 1 : Nat) : Rat) / ((pairP w + 1 : Nat) : Rat)

/-- The factor K of the frequency formula, which no pair changes. -/
def State.freqScale (s : State) : Rat :=
  (s.inFreq.toNat : Rat) / ((4 * (s.fieldR + 1) * (s.fieldOD + 1) * (s.fieldACD + 1) : Nat) : Rat)

theorem State.freqScale_pos {s : State} (h : 0 < s.inFreq.toNat) : 0 < s.freqScale := by
  unfold State.freqScale
  positivity

/-- The output frequency as K·((F+1) + term): the divider p+1 cancels in the integer part (R145). -/
theorem State.freq_eq (s : State) (w : Half) :
    ((s.freqNumOf w : Nat) : Rat) / ((s.freqDenOf w : Nat) : Rat) =
      s.freqScale * ((s.fieldF + 1 : Nat) + fracTerm w) := by
  simp only [State.freqNumOf, State.freqDenOf, State.freqScale, State.inHz, fracTerm]
  push_cast
  field_simp

/-- The integer comparison that BUILD makes compares the terms. -/
theorem fracTerm_le_iff (w₁ w₂ : Half) :
    fracTerm w₁ ≤ fracTerm w₂ ↔ (pairF w₁ + 1) * (pairP w₂ + 1) ≤ (pairF w₂ + 1) * (pairP w₁ + 1) := by
  rw [fracTerm, fracTerm, div_le_div_iff₀ (by positivity) (by positivity)]
  exact_mod_cast Iff.rfl

/-- Settles O15: the frequency is the term after a shift and a scaling by K > 0, and both keep the order. -/
theorem frequencyIncreasesWithTheFractionalTerm : Obligations.FrequencyIncreasesWithTheFractionalTerm := by
  intro s w₁ w₂ hin freq term k
  have hk : 0 < k := State.freqScale_pos hin
  have hfreq : ∀ w, freq w = k * ((s.fieldF + 1 : Nat) + term w) := s.freq_eq
  refine ⟨hk, hfreq w₁, ?_, ?_⟩
  · rw [hfreq, hfreq, mul_lt_mul_iff_right₀ hk, add_lt_add_iff_left]
  · rw [hfreq, hfreq, mul_le_mul_iff_right₀ hk, add_le_add_iff_left]
    exact fracTerm_le_iff w₁ w₂

/-! ### A validated configuration stays valid (40_frequency_validator.md R148) -/

/-- Every reachable state of a block with legal parameters meets the invariant. -/
theorem Reachable.inv {p : Params} {s : State} (hp : p.wf = true) (h : Reachable p s) : s.Inv := by
  induction h with
  | start es => exact (State.resetWith_inv hp).withEvents es
  | step _ hs ih => exact stepKeepsTheInvariant _ _ ih hs

/-- R and OD fit their fields, so their checks never fail (R141). -/
theorem State.rOk_and_odOk (s : State) : s.rOk = true ∧ s.odOk = true := by
  simp only [State.rOk, State.odOk, s.fieldR_eq, s.fieldOD_eq, decide_eq_true_eq]
  omega

/-- While CFG_OK = 1 the selected pair is the active pair, and the invariant holds every other check. -/
theorem State.Inv.allOk {s : State} (h : s.Inv) (hc : s.cfgOk = true) : s.allOk = true := by
  obtain ⟨checks, active⟩ := h.config hc
  obtain ⟨range, _, low, high⟩ := s.configFault?_eq_none.mp checks
  obtain ⟨r, od⟩ := s.rOk_and_odOk
  have selected : s.selectedPair = s.fracOut := if_pos hc
  simp [State.allOk, selected, range, r, od, active, low, high]

/-- Settles O16: ALL_OK is bit 6 of `VCHECK`, and the invariant reaches every state of a run. -/
theorem validatedConfigurationStaysValid : Obligations.ValidatedConfigurationStaysValid := by
  have reads : ∀ s : State, s.Inv → s.cfgOk = true → (s.readReg .vcheck).getLsbD 6 = true := by
    intro s h hc
    have word : s.readReg .vcheck = s.vcheckWord := and_fullMask _
    obtain ⟨_, _, _, _, _, _, allOk⟩ := s.vcheckWord_bits
    rw [word, allOk, h.allOk hc]
  exact ⟨reads, fun _ s hp h => reads s (h.inv hp)⟩

end Sys2Proof.Machine
end

section
/-! The frame of every command (44_command_control.md R264): the fields its pseudocode writes, and that its next state
differs in nothing else. -/

namespace Sys2Proof.Machine

/-- `s` with the fields that command `i` may write taken from `u`. CMD_ERR is among them for every command: the common
frame raises it (44_command_control.md R264). -/
def Instr.written (i : Instr) (s u : State) : State :=
  let s := { s with cmdErr := u.cmdErr }
  match i with
  | .nop => s
  | .validate =>
    { s with
      cfgOk := u.cfgOk, fracOut := u.fracOut
      fault := u.fault, faultCause := u.faultCause, faultIndex := u.faultIndex }
  | .build =>
    { s with
      ready := u.ready, limitI := u.limitI, limitII := u.limitII
      fault := u.fault, faultCause := u.faultCause, faultIndex := u.faultIndex }
  | .init =>
    { s with
      run := u.run, acc := u.acc, acc2 := u.acc2, accSat := u.accSat, acc2Sat := u.acc2Sat, prevCount := u.prevCount
      fracOut := u.fracOut, index := u.index, setpoint := u.setpoint, totalErr := u.totalErr, lock := u.lock }
  | .tick =>
    { s with
      acc := u.acc, acc2 := u.acc2, accSat := u.accSat, acc2Sat := u.acc2Sat, prevCount := u.prevCount
      fracOut := u.fracOut, index := u.index, setpoint := u.setpoint, totalErr := u.totalErr, lock := u.lock
      periodFrac := u.periodFrac, fault := u.fault, faultCause := u.faultCause, faultIndex := u.faultIndex }
  | .resolve =>
    { s with
      fracOut := u.fracOut, index := u.index, setpoint := u.setpoint, totalErr := u.totalErr, lock := u.lock }
  | .clear =>
    { s with
      cfgOk := u.cfgOk, ready := u.ready, run := u.run, wrIgn := u.wrIgn
      index := u.index, setpoint := u.setpoint, totalErr := u.totalErr, lock := u.lock }

/-- A command's effect writes its own fields and nothing else. -/
theorem Instr.effect_eq_written (i : Instr) (s : State) : Instr.effect i s = Instr.written i s (Instr.effect i s) := by
  cases i with
  | validate => rcases s.validate_cases with ⟨_, _, h⟩ | ⟨_, h⟩ <;> rw [Instr.effect, h] <;> rfl
  | build => rcases s.build_cases with ⟨_, _, _, h⟩ | ⟨_, h⟩ <;> rw [Instr.effect, h] <;> rfl
  | tick => rcases s.tick_cases with ⟨_, h⟩ | ⟨_, h⟩ <;> rw [Instr.effect, h] <;> rfl
  | nop | init | resolve | clear => rfl

/-- So does the command on every path: without effect, refused, or run. -/
theorem exec_eq_written {i : Instr} {s t : State} (h : exec i s = .next t) : t = Instr.written i s t := by
  rcases exec_next_cases h with ⟨_, rfl⟩ | ⟨_, _, rfl⟩ | ⟨_, _, rfl⟩
  · cases i <;> rfl
  · exact Instr.effect_eq_written i s
  · cases i <;> rfl

/-- The registers that no command writes: those the host writes but `PERIOD_FRAC`, and the two constants. -/
def Reg.commandKept : List Reg :=
  [.inFreq, .pllCtl, .pllAcd, .fracInit, .expInc, .initCount, .kp, .ki, .kii, .lutSize, .lutAddr, .lutData, .measCount,
    .resError, .id, .params]

theorem Instr.written_readReg (i : Instr) (s u : State) :
    ∀ r ∈ Reg.commandKept, (Instr.written i s u).readReg r = s.readReg r := by
  simp only [Reg.commandKept, List.forall_mem_cons]
  cases i <;> simp [Instr.written, State.readReg, State.regValue, State.lutDataRead, State.lutPointer]

/-- Settles O47: each clause names the commands that write its fields, and every other command's frame keeps them. -/
theorem commandsKeepWhatTheyDoNotWrite : Obligations.CommandsKeepWhatTheyDoNotWrite := by
  intro i s t h
  rw [exec_eq_written h]
  refine ⟨Instr.written_readReg i s t, ?_⟩
  cases i <;> simp [Instr.written]

end Sys2Proof.Machine
end

section
/-! The register LUT (41_lut.md R172 to R177): which check BUILD reports, when it passes, the windup limits it stores,
and what then stays as it is while READY = 1. -/

namespace Sys2Proof.Machine

variable {s : State}

/-! ### The checks of an entry and of the table (41_lut.md R172, R173) -/

theorem State.lutWord_of_word? {i : Nat} {w : Half} (h : s.lut.word? i = some w) : s.lutWord i = w := by
  simp [State.lutWord, h]

theorem State.entryFault?_of_unwritten {i : Nat} (h : s.lut.word? i = none) : s.entryFault? i = some .lutHole := by
  simp [State.entryFault?, h]

/-- The checks of a written entry, in their order. -/
theorem State.entryFault?_of_written {i : Nat} {w : Half} (h : s.lut.word? i = some w) :
    s.entryFault? i =
      if ¬pairF w < pairP w then some .lutFrac
      else if 1 ≤ i ∧ termLe (s.lutWord (i - 1)) w = false then some .lutNonmono
      else none := by
  simp [State.entryFault?, h, pairOk]

theorem State.goodEntry.entryFault? {i : Nat} (h : s.goodEntry i) : s.entryFault? i = none := by
  obtain ⟨w, written, fraction, monotone⟩ := h
  refine (s.entryFault?_eq_none i).mpr ⟨w, written, decide_eq_true fraction, fun hi => ?_⟩
  obtain ⟨v, before, hle⟩ := monotone hi
  rw [State.lutWord_of_word? before]
  exact decide_eq_true hle

/-- BUILD's checks compare an entry with the contents of the one before it, and that one is checked to be written
first. -/
theorem State.tableFault?_eq_none_iff_good (s : State) :
    s.tableFault? = none ↔
      1 ≤ s.tableSize ∧ s.tableSize ≤ s.params.lutMax ∧ ∀ i, i < s.tableSize → s.goodEntry i := by
  constructor
  · intro h
    obtain ⟨nonempty, fits, entries⟩ := s.tableFault?_eq_none.mp h
    refine ⟨nonempty, fits, fun i hi => ?_⟩
    obtain ⟨w, written, fraction, monotone⟩ := (s.entryFault?_eq_none i).mp (entries i hi)
    refine ⟨w, written, of_decide_eq_true fraction, fun h1 => ?_⟩
    obtain ⟨before, -⟩ := State.entry_of_tableFault?_eq_none h (i := i - 1) (by omega)
    exact ⟨_, before, of_decide_eq_true (monotone h1)⟩
  · rintro ⟨nonempty, fits, good⟩
    exact s.tableFault?_eq_none.mpr ⟨nonempty, fits, fun i hi => (good i hi).entryFault?⟩

theorem State.tableFault?_of_size (h : s.tableSize < 1 ∨ s.params.lutMax < s.tableSize) :
    s.tableFault? = some (.lutSize, 0) :=
  if_pos h

/-- In a table of legal size the lowest failing entry is reported. -/
theorem State.tableFault?_of_entry {i : Nat} {c : FaultCause} (fits : s.tableSize ≤ s.params.lutMax)
    (hi : i < s.tableSize) (good : ∀ j, j < i → s.goodEntry j) (hc : s.entryFault? i = some c) :
    s.tableFault? = some (c, i) := by
  rw [State.tableFault?, if_neg (by omega), State.scanEntries_eq_some]
  exact ⟨Nat.zero_le i, by omega, hc, fun j _ hj => (good j hj).entryFault?⟩

/-! ### BUILD's next state (41_lut.md R174) -/

theorem exec_build_refused (hf : s.fault = false) (h : s.cfgOk = false ∨ s.ready = true) :
    exec .build s = .next s.raiseCmdErr := by
  have refuses : Instr.allowed .build s = false := by
    rcases h with h | h <;> simp [Instr.allowed, h]
  simp [exec_eq, hf, refuses]

theorem exec_build_configured (hf : s.fault = false) (hc : s.cfgOk = true) (hr : s.ready = false) :
    exec .build s = .next s.build := by
  simp [exec_eq, hf, hc, hr, Instr.allowed, Instr.effect]

theorem State.build_of_fault {c : FaultCause} {i : Nat} (h : s.tableFault? = some (c, i)) :
    s.build = s.raiseFault c i := by
  simp [State.build, h]

theorem State.build_of_pass (h : s.tableFault? = none) : s.build = s.passBuild := by
  simp [State.build, h]

/-- A BUILD in CONFIGURED that ends with READY = 1 passed every check. -/
theorem exec_build_ready {t : State} (hf : s.fault = false) (hc : s.cfgOk = true) (hr : s.ready = false)
    (h : exec .build s = .next t) (ht : t.ready = true) : s.tableFault? = none ∧ t = s.passBuild := by
  obtain rfl := Host.Outcome.next.inj ((exec_build_configured hf hc hr).symm.trans h)
  rcases s.build_cases with ⟨c, i, -, he⟩ | ⟨pass, he⟩
  · rw [he, State.raiseFault_ready, hr] at ht
    cases ht
  · exact ⟨pass, he⟩

/-- Settles O32: the refusal is the frame's, and no check fails exactly on a good table. -/
theorem buildPassesExactlyOnGoodTables : Obligations.BuildPassesExactlyOnGoodTables := by
  intro s hf
  refine ⟨exec_build_refused hf, fun hc hr => ?_⟩
  intro n limit
  have size : s.tableSize = n := tableSize_eq s
  have good := s.tableFault?_eq_none_iff_good
  rw [size] at good
  rw [exec_build_configured hf hc hr]
  constructor
  · intro h
    rw [State.build_of_pass (good.mpr h), State.passBuild, size]
    rfl
  · intro h
    rcases s.build_cases with ⟨c, i, -, he⟩ | ⟨pass, -⟩
    · exact ⟨c, _, congrArg _ he⟩
    · exact absurd (good.mp pass) h

/-- Settles O33: the size is checked before the scan, and the scan stops at the first entry that is not good. -/
theorem buildReportsTheFirstFailingCheck : Obligations.BuildReportsTheFirstFailingCheck := by
  intro s hf hc hr n raised
  have size : s.tableSize = n := tableSize_eq s
  have raises : ∀ {c i}, s.tableFault? = some (c, i) → raised c i := fun h =>
    (exec_build_configured hf hc hr).trans (congrArg _ (State.build_of_fault h))
  refine ⟨fun h => raises (State.tableFault?_of_size (size.symm ▸ h)), fun i _ fits hi good => ?_⟩
  have first : ∀ {c}, s.entryFault? i = some c → raised c i := fun h =>
    raises (State.tableFault?_of_entry (size.symm ▸ fits) (size.symm ▸ hi) good h)
  refine ⟨fun hole => first (State.entryFault?_of_unwritten hole), fun w written => ⟨fun fraction => ?_, ?_⟩⟩
  · exact first (by rw [State.entryFault?_of_written written, if_pos fraction])
  · intro v fraction h1 before decrease
    refine first ?_
    rw [State.entryFault?_of_written written, if_neg (not_not.mpr fraction), State.lutWord_of_word? before,
      if_pos ⟨h1, decide_eq_false (Nat.not_le.mpr decrease)⟩]

/-! ### The windup limits (41_lut.md R175) -/

theorem Params.lutMax_le {p : Params} (h : p.wf = true) : p.lutMax ≤ 2 ^ 15 := by
  simp only [Params.wf, Bool.and_eq_true, decide_eq_true_eq] at h
  exact Nat.pow_le_pow_right (by decide) (by omega)

/-- The largest limit is that of the largest table and the smallest gain. -/
theorem windupLimit_le {n : Nat} (hn : n ≤ 2 ^ 15) (k : Nat) : windupLimit n k ≤ 2 ^ 63 := by
  unfold windupLimit
  split_ifs
  · exact Nat.zero_le _
  · calc n * 2 ^ 48 / k ≤ n * 2 ^ 48 := Nat.div_le_self _ _
      _ ≤ 2 ^ 15 * 2 ^ 48 := Nat.mul_le_mul_right _ hn
      _ = 2 ^ 63 := by norm_num

/-- A limit as a number: it fits its 64-bit register without loss. -/
theorem State.windupLimit_toNat (hwf : s.params.wf = true) (h : s.tableFault? = none) (k : Nat) :
    (BitVec.ofNat 64 (windupLimit s.tableSize k)).toNat = windupLimit s.tableSize k ∧
    windupLimit s.tableSize k ≤ 2 ^ 63 := by
  obtain ⟨-, fits, -⟩ := s.tableFault?_eq_none.mp h
  have bound := windupLimit_le (fits.trans (Params.lutMax_le hwf)) k
  exact ⟨by rw [BitVec.toNat_ofNat, Nat.mod_eq_of_lt (by omega)], bound⟩

/-- Settles O34: both registers hold the limit of their gain, which is a natural quotient. -/
theorem windupLimitsFitAndRoundDown : Obligations.WindupLimitsFitAndRoundDown := by
  intro s t hwf hf hc hr h ht n K L hKL
  obtain ⟨pass, rfl⟩ := exec_build_ready hf hc hr h ht
  obtain ⟨value, bound⟩ := State.windupLimit_toNat hwf pass K
  have hL : L.toNat = windupLimit s.tableSize K := by
    rcases hKL with ⟨rfl, rfl⟩ | ⟨rfl, rfl⟩ <;> exact value
  have size : s.tableSize = n := tableSize_eq s
  rw [size] at hL bound
  have quotient : 0 < K → L.toNat = n * 2 ^ 48 / K := fun hK => hL.trans (if_neg hK.ne')
  refine ⟨fun hK => hL.trans (if_pos hK), fun hK => ?_, fun hK hdvd => ?_, hL.le.trans bound⟩
  · rw [quotient hK]
    exact ⟨rfl, Nat.div_mul_le_self _ _, Nat.lt_mul_of_div_lt (Nat.lt_succ_self _) hK⟩
  · rw [quotient hK, Nat.div_mul_cancel hdvd]

/-! ### The built table is frozen (41_lut.md R176) -/

/-- What cannot change while READY = 1: READY itself, the table, its size, the gains and the limits. -/
def State.built (s : State) : Bool × Memory × Word × Word × Word × Word × Wide × Wide :=
  (s.ready, s.lut, s.lutSize, s.kp, s.ki, s.kii, s.limitI, s.limitII)

/-- Of the commands only BUILD and CLEAR write any of it, and BUILD is refused with READY = 1. -/
theorem Instr.effect_built {i : Instr} (hr : s.ready = true) (ha : Instr.allowed i s = true) (hi : i ≠ .clear) :
    (Instr.effect i s).built = s.built := by
  rw [Instr.effect_eq_written]
  cases i with
  | build => simp [Instr.allowed, hr] at ha
  | clear => exact absurd rfl hi
  | nop | validate | init | tick | resolve => rfl

/-- A write that its class lets through is not of class L, the class of the size and the gains (10_state.md R64). -/
theorem State.built_storeReg {r : Reg} {k : LockClass} (hready : s.ready = true) (hk : r.lockClass? = some k)
    (hu : s.unlocked k = true) (v : Word) : (s.storeReg r v).built = s.built := by
  have locked : ∀ {r' : Reg}, r'.lockClass? = some .l → r' ∉ Reg.computed →
      (s.storeReg r v).regValue r' = s.regValue r' := fun hk' =>
    State.regValue_storeReg_locked hk hu v hk' (by simp [State.unlocked, hready])
  have lutSize : (s.storeReg r v).lutSize = s.lutSize := locked (r' := .lutSize) rfl (by decide)
  have kp : (s.storeReg r v).kp = s.kp := locked (r' := .kp) rfl (by decide)
  have ki : (s.storeReg r v).ki = s.ki := locked (r' := .ki) rfl (by decide)
  have kii : (s.storeReg r v).kii = s.kii := locked (r' := .kii) rfl (by decide)
  simp [State.built, lutSize, kp, ki, kii]

theorem State.Served.built {t : State} {e : HostEvent} (he : s.Served e t) (hready : s.ready = true)
    (hreset : e ≠ .reset) (hclear : e ≠ commandOf .clear) : t.built = s.built := by
  cases he with
  | answered | refused | ignored => rfl
  | ran _ ha =>
    exact Instr.effect_built (s := s.respond .writeOk) hready (by simpa using ha) (by rintro rfl; exact hclear rfl)
  | loaded _ hr => exact absurd (hr.symm.trans hready) (by decide)
  | stored _ _ hk hu => exact State.built_storeReg (s := s.respond .writeOk) hready hk (by simpa using hu) _
  | wasReset => exact absurd rfl hreset

/-- The limits that the invariant gives, as numbers. -/
theorem State.Inv.limits_toNat (h : s.Inv) (hready : s.ready = true) :
    s.limitI.toNat = windupLimit s.tableSize s.ki.toNat ∧ s.limitII.toNat = windupLimit s.tableSize s.kii.toNat := by
  obtain ⟨pass, limitI, limitII⟩ := h.table hready
  rw [limitI, limitII]
  exact ⟨(State.windupLimit_toNat h.paramsLegal pass _).1, (State.windupLimit_toNat h.paramsLegal pass _).1⟩

/-- Settles O35: along the run the invariant is kept and no event changes what is frozen. -/
theorem tableIsFrozenWhileReady : Obligations.TableIsFrozenWhileReady := by
  intro es s t hinv hready hes h
  obtain ⟨inv, frozen⟩ : t.Inv ∧ t.built = s.built := by
    refine State.runEvents_keeps (P := fun u => u.Inv ∧ u.built = s.built) ?_ es s t hes ⟨hinv, rfl⟩ h
    intro u v e ⟨hreset, hclear⟩ ⟨uInv, uBuilt⟩ hp
    have served := State.served_of_perform hp
    have uReady : u.ready = true := (congrArg Prod.fst uBuilt).trans hready
    exact ⟨uInv.served served, (served.built uReady hreset hclear).trans uBuilt⟩
  simp only [State.built, Prod.mk.injEq] at frozen
  obtain ⟨ready, lut, lutSize, kp, ki, kii, limitI, limitII⟩ := frozen
  have tReady := ready.trans hready
  exact ⟨tReady, lut, lutSize, kp, ki, kii, limitI, limitII, inv.limits_toNat tReady⟩

/-! ### The built table is monotonic (41_lut.md R177) -/

/-- BUILD compares neighbours, and the order of the terms is transitive. -/
theorem State.fracTerm_le_of_pass (h : s.tableFault? = none) {i j : Nat} (hij : i ≤ j) (hj : j < s.tableSize) :
    fracTerm (s.lutWord i) ≤ fracTerm (s.lutWord j) := by
  obtain ⟨-, -, entries⟩ := s.tableFault?_eq_none.mp h
  induction j, hij using Nat.le_induction with
  | base => exact le_refl _
  | succ k _ ih =>
    obtain ⟨w, written, -, monotone⟩ := (s.entryFault?_eq_none (k + 1)).mp (entries _ hj)
    have step : fracTerm (s.lutWord k) ≤ fracTerm w :=
      (fracTerm_le_iff _ _).mpr (of_decide_eq_true (monotone (Nat.le_add_left 1 k)))
    rw [State.lutWord_of_word? written]
    exact (ih (by omega)).trans step

/-- A larger term is no lower frequency, with IN = 0 too. -/
theorem State.freq_le_of_fracTerm_le (s : State) {v w : Half} (h : fracTerm v ≤ fracTerm w) :
    ((s.freqNumOf v : Nat) : Rat) / ((s.freqDenOf v : Nat) : Rat) ≤
      ((s.freqNumOf w : Nat) : Rat) / ((s.freqDenOf w : Nat) : Rat) := by
  have scale : 0 ≤ s.freqScale := by
    unfold State.freqScale
    positivity
  rw [s.freq_eq, s.freq_eq]
  gcongr

/-- Settles O36: the table is still the one that passed, and the frequency follows the term. -/
theorem builtTableIsMonotonic : Obligations.BuiltTableIsMonotonic := by
  intro s t hf hc hr h ht i j hij hj
  obtain ⟨pass, rfl⟩ := exec_build_ready hf hc hr h ht
  have good : s.passBuild.tableFault? = none :=
    (State.tableFault?_congr (s := s) (t := s.passBuild) rfl rfl rfl).trans pass
  obtain ⟨writtenI, -⟩ := State.entry_of_tableFault?_eq_none good (hij.trans_lt hj)
  obtain ⟨writtenJ, -⟩ := State.entry_of_tableFault?_eq_none good hj
  exact ⟨_, _, writtenI, writtenJ, State.freq_le_of_fracTerm_le _ (State.fracTerm_le_of_pass good hij hj)⟩

end Sys2Proof.Machine
end

section
/-! The mapper (42_mapper.md R200 to R204): the set point, the index and the lock status of an error, the entry that
Resolve makes active in a built table, and the order in which errors select entries. -/

namespace Sys2Proof.Machine

variable {s : State}

/-! ### The set point, the clamped index and the lock status (42_mapper.md R200) -/

theorem setPoint_eq (n : Nat) (err : Int) : setPoint n err = (n / 2 : Nat) - err := by
  simp [setPoint, floorDiv]

theorem setPoint_antitone (n : Nat) : Antitone (setPoint n) := fun _ _ h => sub_le_sub_left h _

theorem clampIndex_of_neg (n : Nat) {sp : Int} (h : sp < 0) : clampIndex n sp = 0 := if_pos h

theorem clampIndex_of_ge {n : Nat} {sp : Int} (h : (n : Int) ≤ sp) : clampIndex n sp = n - 1 := by
  rw [clampIndex, if_neg (by omega), if_pos h]

theorem clampIndex_natCast {n i : Nat} (h : i < n) : clampIndex n i = i := by
  rw [clampIndex, if_neg (by omega), if_neg (by omega), Int.toNat_natCast]

theorem clampIndex_monotone (n : Nat) : Monotone (clampIndex n) := by
  intro sp sp' h
  unfold clampIndex
  split_ifs <;> omega

theorem lockOf_of_neg (n : Nat) {sp : Int} (h : sp < 0) : lockOf n sp = .unlockedLow := if_pos h

theorem lockOf_of_ge {n : Nat} {sp : Int} (h : (n : Int) ≤ sp) : lockOf n sp = .unlockedHigh := by
  rw [lockOf, if_neg (by omega), if_pos h]

theorem lockOf_eq_locked_iff (n : Nat) (sp : Int) : lockOf n sp = .locked ↔ 0 ≤ sp ∧ sp < n := by
  unfold lockOf
  split_ifs with below above
  · exact iff_of_false (by simp) (by omega)
  · exact iff_of_false (by simp) (by omega)
  · exact iff_of_true rfl (by omega)

/-- A value that a register holds already is stored without loss (00_scope.md R9). -/
theorem satS_toInt_self {k : Nat} (w : BitVec (k + 1)) : satS (k + 1) w.toInt = w := by
  have lower := BitVec.le_toInt w
  have upper := BitVec.toInt_lt (x := w)
  rw [Nat.add_sub_cancel] at lower upper
  apply BitVec.eq_of_toInt_eq
  rw [satS_toInt, clamp, max_eq_left lower, min_eq_left (Int.le_sub_one_of_lt upper)]

/-! ### The entry that Resolve makes active (42_mapper.md R200, R201) -/

theorem State.Inv.selectIndex_lt (h : s.Inv) (hready : s.ready = true) (err : Int) :
    s.selectIndex err < s.tableSize := by
  obtain ⟨good, -, -⟩ := h.table hready
  obtain ⟨nonempty, -, -⟩ := s.tableFault?_eq_none.mp good
  exact clampIndex_lt nonempty _

/-- The active pair is the word at the selected index, not the free value of an unwritten one. -/
theorem State.Inv.resolve_entry (h : s.Inv) (hready : s.ready = true) (err : Int) :
    s.lut.word? (s.selectIndex err) = some (s.resolve err).fracOut :=
  (State.entry_of_tableFault?_eq_none (h.table hready).1 (h.selectIndex_lt hready err)).1

/-- `INDEX` holds every index of a table that passed BUILD. -/
theorem State.Inv.resolve_index_eq (h : s.Inv) (hready : s.ready = true) (err : Int) :
    (s.resolve err).index = BitVec.ofNat 32 (s.selectIndex err) := by
  have fits := State.lt_lutMax_of_tableFault?_eq_none (h.table hready).1 (h.selectIndex_lt hready err)
  refine and_fieldMask_of_lt ?_
  rw [BitVec.toNat_ofNat]
  exact (Nat.mod_le _ _).trans_lt fits

theorem State.Inv.resolve_index_toNat (h : s.Inv) (hready : s.ready = true) (err : Int) :
    (s.resolve err).index.toNat = s.selectIndex err := by
  have fits := State.lt_lutMax_of_tableFault?_eq_none (h.table hready).1 (h.selectIndex_lt hready err)
  rw [h.resolve_index_eq hready, BitVec.toNat_ofNat,
    Nat.mod_eq_of_lt (fits.trans (Params.two_pow_lutAW_lt h.paramsLegal))]

theorem exec_resolve_refused (hf : s.fault = false) (hr : s.ready = false) :
    exec .resolve s = .next s.raiseCmdErr := by
  simp [exec_eq, hf, hr, Instr.allowed]

theorem exec_resolve_ready (hf : s.fault = false) (hr : s.ready = true) :
    exec .resolve s = .next (s.resolve s.resError.toInt) := by
  simp [exec_eq, hf, hr, Instr.allowed, Instr.effect, State.resolveOperand, State.errorOperand]

/-- Settles O37: `INDEX` and `TOTAL_ERR` store their values without loss, and the entry is written. -/
theorem resolveSelectsTheClampedEntry : Obligations.ResolveSelectsTheClampedEntry := by
  intro s hf
  refine ⟨exec_resolve_refused hf, fun hr hinv => ?_⟩
  intro n sp idx
  have size : s.tableSize = n := tableSize_eq s
  have point : s.setPointOf s.resError.toInt = sp := by rw [State.setPointOf, size, setPoint_eq]
  have selected : s.selectIndex s.resError.toInt = idx := by
    rw [State.selectIndex, size, point]
    rfl
  have index := hinv.resolve_index_eq hr s.resError.toInt
  have entry := hinv.resolve_entry hr s.resError.toInt
  rw [selected] at index entry
  refine ⟨_, entry, ?_⟩
  rw [exec_resolve_ready hf hr, State.resolve, ← State.resolve_index, index, size, point, satS_toInt_self]
  rfl

/-! ### Order, midpoint and boundaries (42_mapper.md R202 to R204) -/

theorem State.selectIndex_antitone (s : State) : Antitone s.selectIndex :=
  (clampIndex_monotone _).comp_antitone (setPoint_antitone _)

/-- Settles O38: a larger error selects no larger index, and the built table rises with the index. -/
theorem largerErrorLowersTheFrequency : Obligations.LargerErrorLowersTheFrequency := by
  intro s err₁ err₂ hinv hr herr
  have lower : s.selectIndex err₂ ≤ s.selectIndex err₁ := s.selectIndex_antitone herr
  rw [hinv.resolve_index_toNat hr, hinv.resolve_index_toNat hr]
  obtain ⟨pass, -, -⟩ := hinv.table hr
  exact ⟨lower, s.freq_le_of_fracTerm_le (State.fracTerm_le_of_pass pass lower (hinv.selectIndex_lt hr err₁))⟩

/-- Settles O39: the set point of error 0 is floor(n/2), an index of the table; beyond either end the index and the
status are those of that end. -/
theorem midpointAndBoundariesOfTheMapper : Obligations.MidpointAndBoundariesOfTheMapper := by
  intro s hinv hr n
  have size : s.tableSize = n := tableSize_eq s
  have nonempty : 0 < n := size ▸ (Nat.zero_le _).trans_lt (hinv.selectIndex_lt hr 0)
  have half : n / 2 < n := Nat.div_lt_self nonempty one_lt_two
  have point : ∀ err, s.setPointOf err = (n / 2 : Nat) - err := fun err => by
    rw [State.setPointOf, size, setPoint_eq]
  have lock : ∀ err, (s.resolve err).lock = lockOf n ((n / 2 : Nat) - err) := fun err => by
    rw [State.resolve_lock, size, point]
  have index : ∀ err, s.selectIndex err = clampIndex n ((n / 2 : Nat) - err) := fun err => by
    rw [State.selectIndex, size, point]
  have entry : ∀ err i, clampIndex n ((n / 2 : Nat) - err) = i → s.lut.word? i = some (s.resolve err).fracOut :=
    fun err i h => (index err).trans h ▸ hinv.resolve_entry hr err
  have middle : clampIndex n ((n / 2 : Nat) - 0) = n / 2 := by rw [sub_zero, clampIndex_natCast half]
  refine ⟨⟨?_, ?_, entry 0 _ middle⟩, fun err => ⟨fun below => ?_, fun above => ?_, ?_⟩⟩
  · rw [hinv.resolve_index_toNat hr, index, middle]
  · rw [lock, lockOf_eq_locked_iff]
    omega
  · exact ⟨(lock err).trans (lockOf_of_neg n below), entry err 0 (clampIndex_of_neg n below)⟩
  · exact ⟨(lock err).trans (lockOf_of_ge above), entry err _ (clampIndex_of_ge above)⟩
  · rw [lock, lockOf_eq_locked_iff]

end Sys2Proof.Machine
end

section
/-! The controller's commands (43_controller.md R220 to R229, R231, R232): INIT, the three endings of TICK, and the
control step of a TICK that completes, computed over the integers from the registers. -/

namespace Sys2Proof.Machine

variable {s : State}

/-! ### A command with FAULT = 0 (44_command_control.md R264) -/

theorem exec_refused {i : Instr} (hf : s.fault = false) (ha : Instr.allowed i s = false) :
    exec i s = .next s.raiseCmdErr := by
  simp [exec_eq, hf, ha]

theorem exec_allowed {i : Instr} (hf : s.fault = false) (ha : Instr.allowed i s = true) :
    exec i s = .next (Instr.effect i s) := by
  simp [exec_eq, hf, ha]

theorem exec_tick_faults (hf : s.fault = false) (hrun : s.run = true) (hp : s.periodFrac = 0#32) :
    exec .tick s = .next (s.raiseFault .tickPfZero 0) := by
  rw [exec_allowed (i := .tick) hf hrun, Instr.effect]
  rcases s.tick_cases with ⟨-, h⟩ | ⟨hp', -⟩
  · rw [h]
  · exact absurd hp hp'

theorem exec_tick_completes (hf : s.fault = false) (hrun : s.run = true) (hp : s.periodFrac ≠ 0#32) :
    exec .tick s = .next (s.integrate.resolve s.totalError).reloadPeriod := by
  rw [exec_allowed (i := .tick) hf hrun, Instr.effect]
  rcases s.tick_cases with ⟨hp', -⟩ | ⟨-, h⟩
  · exact absurd hp' hp
  · rw [h]

/-! ### INIT (43_controller.md R220) -/

/-- Settles O40: the count is cut to `CNT_W` bits and the pair to 16; READY alone decides. -/
theorem initRestartsTheController : Obligations.InitRestartsTheController := by
  intro s hf
  have count : s.countWord s.initCount = BitVec.ofNat 32 (s.initCount.toNat % 2 ^ s.params.cntW) :=
    and_fieldMask_eq_ofNat _ _
  refine ⟨fun hr => exec_refused hf hr, fun hr => ?_⟩
  rw [exec_allowed (i := .init) hf hr, Instr.effect, State.initController, count, s.initPair_eq_setWidth]

/-! ### The endings of TICK (43_controller.md R221, R228, R231) -/

/-- Every set point is below the table, above it or in it: Resolve never leaves LOCK = NONE. -/
theorem lockOf_cases (n : Nat) (sp : Int) :
    lockOf n sp = .locked ∨ lockOf n sp = .unlockedLow ∨ lockOf n sp = .unlockedHigh := by
  unfold lockOf
  split_ifs <;> simp

/-- Settles O42: the mode is asked first, then `PERIOD_FRAC`, and a control step ends in Resolve. -/
theorem tickFaultsOnlyOnZeroPeriod : Obligations.TickFaultsOnlyOnZeroPeriod := by
  intro s hf
  refine ⟨fun hrun => exec_refused hf hrun, fun hrun hp => exec_tick_faults hf hrun hp, fun hrun hp => ?_⟩
  exact ⟨_, exec_tick_completes hf hrun hp, hf, lockOf_cases _ _⟩

/-- Settles O43: of the three endings only the completed one writes `PERIOD_FRAC`. -/
theorem completedTickReloadsPeriodFraction : Obligations.CompletedTickReloadsPeriodFraction := by
  intro s hf
  cases hrun : s.run with
  | false => exact ⟨_, exec_refused hf hrun, by simp, by simp⟩
  | true =>
    by_cases hp : s.periodFrac = 0#32
    · exact ⟨_, exec_tick_faults hf hrun hp, by simp [hp], by simp⟩
    · exact ⟨_, exec_tick_completes hf hrun hp, fun _ => rfl, by simp [hp]⟩

/-! ### The count difference (43_controller.md R222, R232) -/

theorem State.countWord_toNat (s : State) (w : Word) : (s.countWord w).toNat = w.toNat % 2 ^ s.params.cntW :=
  keepLow_toNat _ _

/-- The bits of a count above `CNT_W` do not matter modulo 2^CNT_W. -/
theorem State.countDiff_eq (s : State) :
    s.countDiff = ((s.measCount.toNat : Int) - s.prevCount.toNat) % 2 ^ s.params.cntW := by
  rw [State.countDiff, State.measured, State.previous, State.countWord_toNat, State.countWord_toNat, modulo]
  push_cast
  exact (Int.sub_emod _ _ _).symm

theorem State.countDiff_of_advance {k : Nat}
    (h : s.measCount.toNat % 2 ^ s.params.cntW = (s.prevCount.toNat + k) % 2 ^ s.params.cntW) :
    s.countDiff = (k % 2 ^ s.params.cntW : Nat) := by
  have counts : (s.measCount.toNat : Int) ≡ s.prevCount.toNat + k [ZMOD 2 ^ s.params.cntW] := by
    exact_mod_cast (Int.natCast_modEq_iff (n := 2 ^ s.params.cntW)).mpr h
  have difference := counts.sub_right (s.prevCount.toNat : Int)
  rw [add_sub_cancel_left] at difference
  rw [State.countDiff_eq]
  exact_mod_cast difference

/-- Settles O44: counts that differ by `k` modulo 2^CNT_W have that difference. -/
theorem countDifferenceSurvivesWrap : Obligations.CountDifferenceSurvivesWrap := by
  intro s k h
  have difference := State.countDiff_of_advance h
  exact ⟨difference, fun hk => by rw [difference, Nat.mod_eq_of_lt hk]⟩

/-! ### The control step (43_controller.md R222 to R227) -/

theorem truncDiv_eq_tdiv (a b : Int) : truncDiv a b = a.tdiv b := by
  unfold truncDiv floorDiv
  split_ifs with nonneg
  · exact (Int.tdiv_eq_ediv_of_nonneg nonneg).symm
  · rw [← Int.tdiv_eq_ediv_of_nonneg (by omega), Int.neg_tdiv, neg_neg]

/-- `v` cut to the range of an accumulator, as `sat_s(64, v)` does (00_scope.md R9). -/
def accClamp (v : Int) : Int := clamp v (-(2 ^ 63)) (2 ^ 63 - 1)

theorem State.nextAcc_toInt (s : State) : s.nextAcc.toInt = accClamp s.accSum := satS_toInt 63 _

theorem State.nextAcc2_toInt (s : State) : s.nextAcc2.toInt = accClamp s.acc2Sum := satS_toInt 63 _

/-- A sum sets its flag when the accumulator stores another value. -/
theorem State.saturates_accSum (s : State) : saturates 64 s.accSum = decide (s.nextAcc.toInt ≠ s.accSum) := rfl

theorem State.saturates_acc2Sum (s : State) : saturates 64 s.acc2Sum = decide (s.nextAcc2.toInt ≠ s.acc2Sum) := rfl

/-- A count that the invariant holds of has no bit above `CNT_W` to lose. -/
theorem State.Inv.countWord_measCount (h : s.Inv) : s.countWord s.measCount = s.measCount :=
  (h.reserved .measCount (mem_all _)).symm

/-- Settles O41: each quantity of the statement is the model's own, in the order in which the step computes them; the
entry is written because Resolve runs in a built table. -/
theorem tickPerformsOneControlStep : Obligations.TickPerformsOneControlStep := by
  intro s hinv hf hrun hp m diff e sat a1 a2 bound total n sp idx
  have hready : s.integrate.ready = true := hinv.modes.1 hrun
  have hdiff : s.countDiff = diff := s.countDiff_eq
  have he : s.rawError = e := by rw [State.rawError, State.countIncrement, hdiff]; rfl
  have ha1 : s.accSum = a1 := by rw [State.accSum, he]; rfl
  have hacc : s.nextAcc.toInt = sat a1 := by rw [s.nextAcc_toInt, ha1]; rfl
  have ha2 : s.acc2Sum = a2 := by rw [State.acc2Sum, accRaw, accRaw, hacc]
  have hacc2 : s.nextAcc2.toInt = sat a2 := by rw [s.nextAcc2_toInt, ha2]; rfl
  have htotal : s.totalError = total := by
    rw [State.totalError, truncDiv_eq_tdiv, State.termP, State.termI, State.termII, accRaw, accRaw, he, hacc, hacc2]
    rfl
  have size : s.integrate.tableSize = n := tableSize_eq s
  have point : s.integrate.setPointOf total = sp := by rw [State.setPointOf, size, setPoint_eq]
  have selected : s.integrate.selectIndex total = idx := by
    rw [State.selectIndex, size, point]
    rfl
  have entry := hinv.integrate.resolve_entry hready total
  have index := hinv.integrate.resolve_index_toNat hready total
  rw [selected] at entry index
  refine ⟨_, exec_tick_completes hf hrun hp, hinv.countWord_measCount, hacc, ?_, hacc2, ?_, ?_, ?_, ?_, ?_, ?_, rfl,
    rfl⟩
  · rw [State.reloadPeriod_accSat, State.resolve_accSat, State.integrate_accSat, s.saturates_accSum, hacc, ha1]
  · rw [State.reloadPeriod_acc2Sat, State.resolve_acc2Sat, State.integrate_acc2Sat, s.saturates_acc2Sum, hacc2, ha2]
  · rw [htotal]
    exact entry
  · rw [htotal]
    exact index
  · rw [htotal, State.reloadPeriod_lock, State.resolve_lock, size, point]
    rfl
  · rw [htotal, State.reloadPeriod_setpoint, State.resolve_setpoint, point]
    exact satS_toInt 31 _
  · rw [htotal]
    exact satS_toInt 31 _

end Sys2Proof.Machine
end

section
/-! The sizes of a tick's quantities (43_controller.md R233) and anti-windup (R230): the clamp of an integral term, and
what a train of ticks with a constant count difference does to the accumulator. -/

namespace Sys2Proof.Machine

variable {s : State}

/-! ### Sizes (43_controller.md R233) -/

theorem Params.two_pow_cntW_le {p : Params} (h : p.wf = true) : 2 ^ p.cntW ≤ 2 ^ 32 := by
  simp only [Params.wf, Bool.and_eq_true, decide_eq_true_eq] at h
  exact Nat.pow_le_pow_right (by decide) (by omega)

theorem State.countDiff_bounds (hwf : s.params.wf = true) : 0 ≤ s.countDiff ∧ s.countDiff < 2 ^ 32 := by
  have modulus : (2 : Int) ^ s.params.cntW ≤ 2 ^ 32 := by exact_mod_cast Params.two_pow_cntW_le hwf
  have positive : (0 : Int) < 2 ^ s.params.cntW := by positivity
  rw [State.countDiff_eq]
  exact ⟨Int.emod_nonneg _ positive.ne', (Int.emod_lt_of_pos _ positive).trans_le modulus⟩

/-- Dividing by a natural number makes nothing larger. -/
theorem State.countIncrement_bounds (hwf : s.params.wf = true) :
    0 ≤ s.countIncrement ∧ s.countIncrement ≤ s.countDiff * 2 ^ 32 := by
  have scaled : 0 ≤ s.countDiff * 2 ^ 32 := mul_nonneg (State.countDiff_bounds hwf).1 (by norm_num)
  exact ⟨Int.ediv_nonneg scaled (Int.natCast_nonneg _), Int.ediv_le_self _ scaled⟩

theorem State.abs_rawError_lt (hwf : s.params.wf = true) : |s.rawError| < 2 ^ 64 := by
  obtain ⟨-, diff⟩ := State.countDiff_bounds hwf
  obtain ⟨nonneg, increment⟩ := State.countIncrement_bounds hwf
  have expected := s.expInc.isLt
  rw [State.rawError, State.expected, abs_lt]
  omega

theorem abs_toInt_le (w : Wide) : |w.toInt| ≤ 2 ^ 63 := by
  have lower := BitVec.le_toInt w
  have upper := BitVec.toInt_lt (x := w)
  exact abs_le.mpr ⟨lower, upper.le⟩

/-- A gain has 32 bits, so it adds at most 32 bits to what it multiplies. -/
theorem abs_gain_mul_lt (w : Word) {x b : Int} (hb : 0 < b) (hx : |x| ≤ b) : |gainRaw w * x| < 2 ^ 32 * b := by
  have gain : |gainRaw w| < 2 ^ 32 := by
    rw [gainRaw, Nat.abs_cast]
    exact_mod_cast w.isLt
  rw [abs_mul]
  exact mul_lt_mul_of_nonneg_of_pos gain hx (abs_nonneg _) hb

theorem abs_clamp_le (v : Int) {l : Int} (hl : 0 ≤ l) : |clamp v (-l) l| ≤ l := by
  rw [abs_le, clamp]
  omega

theorem abs_truncDiv_lt {a b c : Int} (hb : 0 < b) (h : |a| < c * b) : |truncDiv a b| < c := by
  unfold truncDiv floorDiv
  split_ifs with nonneg
  · rw [abs_of_nonneg (Int.ediv_nonneg nonneg hb.le)]
    exact Int.ediv_lt_of_lt_mul hb ((le_abs_self a).trans_lt h)
  · rw [abs_neg, abs_of_nonneg (Int.ediv_nonneg (by omega) hb.le)]
    exact Int.ediv_lt_of_lt_mul hb ((neg_le_abs a).trans_lt h)

/-- The integral terms are within their limits, whatever the accumulators hold (43_controller.md R225, R226). -/
theorem State.abs_termI_le (s : State) : |s.termI| ≤ s.limitI.toNat := abs_clamp_le _ (Int.natCast_nonneg _)

theorem State.abs_termII_le (s : State) : |s.termII| ≤ s.limitII.toNat := abs_clamp_le _ (Int.natCast_nonneg _)

/-- Settles O45: each bound follows from those of the quantities before it in the datapath. -/
theorem datapathSizesHoldEveryIntermediate : Obligations.DatapathSizesHoldEveryIntermediate := by
  intro s hwf _ hI hII
  have diff := State.countDiff_bounds hwf
  have increment := (State.countIncrement_bounds hwf).2
  have error := State.abs_rawError_lt hwf
  have termP : |s.termP| < 2 ^ 96 := abs_gain_mul_lt s.kp (by norm_num) error.le
  have termI : |s.termI| ≤ 2 ^ 63 := s.abs_termI_le.trans (by exact_mod_cast hI)
  have termII : |s.termII| ≤ 2 ^ 63 := s.abs_termII_le.trans (by exact_mod_cast hII)
  have sum : |s.termP + s.termI + s.termII| < 2 ^ 97 := by
    have := abs_add_three s.termP s.termI s.termII
    omega
  refine ⟨diff, ⟨increment, by omega⟩, error, termP, ?_, ?_, termI, termII, sum, ?_⟩
  · exact abs_gain_mul_lt s.ki (by norm_num) (abs_toInt_le _)
  · exact abs_gain_mul_lt s.kii (by norm_num) (abs_toInt_le _)
  · exact abs_truncDiv_lt (by norm_num) sum

/-! ### The clamp of an integral term (43_controller.md R225, R226, R230) -/

theorem clamp_of_ge {v l : Int} (h : l ≤ v) : clamp v (-l) l = l := by
  unfold clamp
  omega

theorem clamp_of_le {v l : Int} (hl : 0 ≤ l) (h : v ≤ -l) : clamp v (-l) l = -l := by
  unfold clamp
  omega

/-! ### The accumulator under a constant error (43_controller.md R223) -/

theorem accClamp_toInt (w : Wide) : accClamp w.toInt = w.toInt := by
  conv_rhs => rw [← satS_toInt_self w, satS_toInt]
  rfl

/-- Errors of one sign: cutting after each addition is cutting the whole sum once, since past a bound the sum goes on
past it. -/
theorem accClamp_add {a : Int} (ha : accClamp a = a) (e : Int) (k : Nat) :
    accClamp (accClamp (a + k * e) + e) = accClamp (a + (k + 1 : Nat) * e) := by
  have next : ((k + 1 : Nat) : Int) * e = k * e + e := by push_cast; ring
  rw [next]
  unfold accClamp clamp at *
  rcases le_total 0 e with rising | falling
  · have : 0 ≤ (k : Int) * e := by positivity
    omega
  · have : (k : Int) * e ≤ 0 := mul_nonpos_of_nonneg_of_nonpos (Int.natCast_nonneg k) falling
    omega

/-- 2^64 steps of at least one unit cross the whole range of an accumulator. -/
theorem accClamp_of_pos {a e : Int} (ha : accClamp a = a) (he : 0 < e) {k : Nat} (hk : 2 ^ 64 ≤ k) :
    accClamp (a + k * e) = 2 ^ 63 - 1 := by
  have far : (k : Int) * 1 ≤ k * e := by gcongr; omega
  unfold accClamp clamp at *
  omega

theorem accClamp_of_neg {a e : Int} (ha : accClamp a = a) (he : e < 0) {k : Nat} (hk : 2 ^ 64 ≤ k) :
    accClamp (a + k * e) = -(2 ^ 63) := by
  have far : (k : Int) * e ≤ k * -1 := by gcongr; omega
  unfold accClamp clamp at *
  omega

/-! ### One tick of a train (30_encoding.md R116, `TICK c`) -/

/-- `s` once the host's write of the count `v` to `MEAS_COUNT` is answered (10_state.md R45). -/
def State.takeCount (v : Word) (s : State) : State := { s with measCount := s.countWord v, response := .writeOk }

/-- Class O is never locked (10_state.md R64). -/
theorem State.perform_measCount (hf : s.fault = false) (v : Word) :
    s.perform (.write Reg.measCount.offset 4 v) = .next (s.takeCount v) :=
  State.perform_storedWrite (k := .o) hf (by decide) rfl rfl v

theorem State.takeCount_measCount_toNat (s : State) (v : Word) :
    (s.takeCount v).measCount.toNat = v.toNat % 2 ^ s.params.cntW :=
  s.countWord_toNat v

/-- `TICK c` with RUN = 1 and a nonzero period fraction: its two accesses, the count and the control step. -/
theorem State.runEvents_tick (hf : s.fault = false) (hrun : s.run = true) (hp : s.periodFrac ≠ 0#32) (v : Word) :
    s.runEvents [.write Reg.measCount.offset 4 v, commandOf .tick] =
      .next ((s.takeCount v).integrate.resolve (s.takeCount v).totalError).reloadPeriod := by
  have answered : (s.takeCount v).respond .writeOk = s.takeCount v := State.respond_of_response rfl
  have tick := State.perform_tick_completes (s := s.takeCount v) hf hrun hp
  rw [answered] at tick
  rw [State.runEvents_cons _ (State.perform_measCount hf v), State.runEvents_cons _ tick, State.runEvents_nil]

/-- The raw error, in Q16, of a tick whose count advanced by `d` over a period of 1.0 (43_controller.md R222). -/
def State.errorOf (s : State) (d : Nat) : Int := ((d : Int) - s.expInc.toNat) * 2 ^ 16

/-- With a period fraction of 1.0 the increment is the count difference itself. -/
theorem State.rawError_of_onePointZero {d : Nat} (hp : s.periodFrac = onePointZero) (hd : s.countDiff = d) :
    s.rawError = s.errorOf d := by
  have period : s.periodRaw = 2 ^ 16 := by rw [State.periodRaw, hp]; rfl
  rw [State.rawError, State.countIncrement, hd, period, floorDiv, State.expected, State.errorOf]
  omega

/-- What `k` ticks that advance the count by `d` each leave of the running state `s`. -/
structure State.Ticked (s : State) (d k : Nat) (t : State) : Prop where
  params : t.params = s.params
  fault : t.fault = false
  run : t.run = true
  period : t.periodFrac = onePointZero
  expInc : t.expInc = s.expInc
  ki : t.ki = s.ki
  limitI : t.limitI = s.limitI
  count : t.prevCount.toNat % 2 ^ s.params.cntW = (s.prevCount.toNat + k * d) % 2 ^ s.params.cntW
  acc : t.acc.toInt = accClamp (s.acc.toInt + k * s.errorOf d)

/-- No tick yet. -/
theorem State.Ticked.start (hf : s.fault = false) (hrun : s.run = true) (hp : s.periodFrac = onePointZero) (d : Nat) :
    s.Ticked d 0 s where
  params := rfl
  fault := hf
  run := hrun
  period := hp
  expInc := rfl
  ki := rfl
  limitI := rfl
  count := by simp
  acc := by simp [accClamp_toInt]

/-- A write of the next count changes nothing of that. -/
theorem State.Ticked.takeCount {d k : Nat} {t : State} (h : s.Ticked d k t) (v : Word) :
    s.Ticked d k (t.takeCount v) :=
  { h with }

/-- One more control step: the count is `d` past the one before, so the raw error is that of `d`. -/
theorem State.Ticked.controlStep {d k : Nat} {t : State} (h : s.Ticked d k t) (hd : d < 2 ^ s.params.cntW)
    (hm : t.measCount.toNat % 2 ^ s.params.cntW = (s.prevCount.toNat + (k + 1) * d) % 2 ^ s.params.cntW) :
    s.Ticked d (k + 1) (t.integrate.resolve t.totalError).reloadPeriod := by
  have advance : t.measCount.toNat % 2 ^ t.params.cntW = (t.prevCount.toNat + d) % 2 ^ t.params.cntW := by
    rw [h.params, hm, Nat.add_mod t.prevCount.toNat, h.count, ← Nat.add_mod]
    ring_nf
  have difference : t.countDiff = d := by
    rw [State.countDiff_of_advance advance, h.params, Nat.mod_eq_of_lt hd]
  have error : t.rawError = s.errorOf d := by
    rw [State.rawError_of_onePointZero h.period difference, State.errorOf, State.errorOf, h.expInc]
  exact
    { params := h.params
      fault := h.fault
      run := h.run
      period := rfl
      expInc := h.expInc
      ki := h.ki
      limitI := h.limitI
      count := by
        rw [State.reloadPeriod_prevCount, State.resolve_prevCount, State.integrate_prevCount, State.countWord_toNat,
          h.params, Nat.mod_mod, hm]
      acc := by
        rw [State.reloadPeriod_acc, State.resolve_acc, State.integrate_acc, State.nextAcc_toInt, State.accSum, accRaw,
          h.acc, error]
        exact accClamp_add (accClamp_toInt s.acc) _ k }

/-- One more tick of the train. -/
theorem State.Ticked.tick {d k : Nat} {t : State} (h : s.Ticked d k t) (hd : d < 2 ^ s.params.cntW) {v : Word}
    (hv : v.toNat % 2 ^ s.params.cntW = (s.prevCount.toNat + (k + 1) * d) % 2 ^ s.params.cntW) :
    ∃ u, t.runEvents [.write Reg.measCount.offset 4 v, commandOf .tick] = .next u ∧ s.Ticked d (k + 1) u := by
  have period : t.periodFrac ≠ 0#32 := by rw [h.period]; decide
  refine ⟨_, State.runEvents_tick h.fault h.run period v, (h.takeCount v).controlStep hd ?_⟩
  rw [State.takeCount_measCount_toNat, h.params, Nat.mod_mod, hv]

/-- The events of a train are those of its ticks, the last one last. -/
theorem tickTrain_succ (w c d k : Nat) :
    tickTrain w c d (k + 1) = tickTrain w c d k ++
      [.write Reg.measCount.offset 4 (BitVec.ofNat 32 ((c + (k + 1) * d) % 2 ^ w)), commandOf .tick] := by
  simp [tickTrain, List.range_succ]

theorem State.runEvents_tickTrain (hwf : s.params.wf = true) (hf : s.fault = false) (hrun : s.run = true)
    (hp : s.periodFrac = onePointZero) {d : Nat} (hd : d < 2 ^ s.params.cntW) (k : Nat) :
    ∃ t, s.runEvents (tickTrain s.params.cntW s.prevCount.toNat d k) = .next t ∧ s.Ticked d k t := by
  induction k with
  | zero => exact ⟨s, rfl, .start hf hrun hp d⟩
  | succ k ih =>
    obtain ⟨t, ht, ticked⟩ := ih
    rw [tickTrain_succ, State.runEvents_append _ ht]
    refine ticked.tick hd ?_
    rw [BitVec.toNat_ofNat, Nat.mod_eq_of_lt (b := 2 ^ 32), Nat.mod_mod]
    exact (Nat.mod_lt _ (Nat.two_pow_pos _)).trans_le (Params.two_pow_cntW_le hwf)

/-! ### Saturation (43_controller.md R230) -/

theorem State.Inv.limitI_le (h : s.Inv) (hready : s.ready = true) : s.limitI.toNat ≤ 2 ^ 63 := by
  obtain ⟨pass, -, -⟩ := h.table hready
  rw [(h.limits_toNat hready).1]
  exact (State.windupLimit_toNat h.paramsLegal pass _).2

/-- Settles O46: a clamp is within its bounds; and 2^64 ticks bring the accumulator to the bound of the error's sign,
where its product with the gain is past the limit. -/
theorem sustainedErrorSaturatesTheIntegralTerm : Obligations.SustainedErrorSaturatesTheIntegralTerm := by
  have nonneg : ∀ l : Wide, 0 ≤ (l.toNat : Int) := fun l => Int.natCast_nonneg _
  refine ⟨fun s => ⟨s.abs_termI_le, s.abs_termII_le, clamp_of_ge, clamp_of_le (nonneg _),
    clamp_of_ge, clamp_of_le (nonneg _)⟩, ?_⟩
  intro s d hinv hf hrun hp hne hd hki reaches
  refine ⟨2 ^ 64, fun k hk => ?_⟩
  obtain ⟨t, ht, ticked⟩ := State.runEvents_tickTrain hinv.paramsLegal hf hrun hp hd k
  refine ⟨t, ht, ticked.limitI, ?_⟩
  rw [ticked.acc, ticked.ki, ticked.limitI]
  have range := accClamp_toInt s.acc
  split_ifs with fast
  · rw [accClamp_of_pos range (by unfold State.errorOf; omega) hk]
    exact clamp_of_ge (reaches fast)
  · rw [accClamp_of_neg range (by unfold State.errorOf; omega) hk]
    have limit := hinv.limitI_le (hinv.modes.1 hrun)
    exact clamp_of_le (nonneg _) (by omega)

end Sys2Proof.Machine
end

section
/-! Command control (44_command_control.md R260, R262, R264): NOP and CLEAR, the mode in which each command ends, the
precondition table, and that no event stops the block. -/

namespace Sys2Proof.Machine

variable {s : State}

/-! ### The answer to an event and to a step (60_exceptions.md R302, R306, R308) -/

/-- The frame of a command has no stopping case (44_command_control.md R264). -/
theorem exec_answers (i : Instr) (s : State) : ∃ t, exec i s = .next t := ⟨_, exec_eq i s⟩

/-- A fault of the block, a refused word and a bus error are states that it goes on from. -/
theorem State.perform_answers (s : State) (e : HostEvent) : ∃ t, s.perform e = .next t := by
  rcases s.perform_cases e with ⟨_, _, _, read⟩ | ⟨_, _, _, _, _, busError⟩ | ⟨_, _, _, _, _, inFaulted⟩ |
    ⟨_, i, _, _, _, command⟩ | ⟨_, _, _, _, _, refused⟩ | ⟨_, _, _, _, _, write⟩ | ⟨_, reset⟩
  · exact ⟨_, read⟩
  · exact ⟨_, busError⟩
  · exact ⟨_, inFaulted⟩
  · rw [command]
    exact exec_answers i _
  · exact ⟨_, refused⟩
  · exact ⟨_, write⟩
  · exact ⟨_, reset⟩

/-- Settles O5: the block waits, or its first waiting event is answered. -/
theorem everyStepAnswersANextState : Obligations.EveryStepAnswersANextState := by
  intro s
  cases h : s.pending with
  | nil => exact ⟨s, step_of_pending_nil h⟩
  | cons e rest =>
    rw [step_of_pending_cons h]
    exact State.perform_answers _ e

/-! ### NOP and CLEAR (44_command_control.md R260, R262) -/

/-- In FAULTED no command has an effect (60_exceptions.md R302). -/
theorem exec_faulted (i : Instr) (hf : s.fault = true) : exec i s = .next s := by
  rw [exec_eq, if_pos hf]

/-- NOP has no effect, in FAULTED or not. -/
theorem exec_nop (s : State) : exec .nop s = .next s := by
  cases hf : s.fault with
  | true => exact exec_faulted .nop hf
  | false => exact exec_allowed hf rfl

/-- Settles O9: the word 0 is the encoding of `NOP`, and a word with a reserved bit set decodes to no command. -/
theorem nopLeavesEverything : Obligations.NopLeavesEverything :=
  ⟨exec_nop, decode_commandWord .nop,
    fun s => ⟨.writeOk, (s.perform_command (decode_commandWord .nop)).trans (exec_nop _)⟩,
    fun s v hf _ reserved => refusedWordSetsOnlyCommandError.1 s v hf (.inl reserved)⟩

/-- Settles O10: CLEAR is never refused, and its effect writes the listed fields. -/
theorem clearReturnsToIdle : Obligations.ClearReturnsToIdle :=
  fun _ => ⟨fun hf => exec_allowed (i := .clear) hf rfl, exec_faulted .clear⟩

/-! ### The mode of a state, from its flags (44_command_control.md R263) -/

theorem State.mode_of_run (hf : s.fault = false) (hrun : s.run = true) : s.mode = .running := by
  simp [State.mode, hf, hrun]

theorem State.mode_of_ready (hf : s.fault = false) (hrun : s.run = false) (hready : s.ready = true) :
    s.mode = .ready := by
  simp [State.mode, hf, hrun, hready]

theorem State.mode_of_cfgOk (hf : s.fault = false) (hrun : s.run = false) (hready : s.ready = false)
    (hcfg : s.cfgOk = true) : s.mode = .configured := by
  simp [State.mode, hf, hrun, hready, hcfg]

theorem State.mode_of_idle (hf : s.fault = false) (hrun : s.run = false) (hready : s.ready = false)
    (hcfg : s.cfgOk = false) : s.mode = .idle := by
  simp [State.mode, hf, hrun, hready, hcfg]

theorem State.raiseFault_mode (s : State) (c : FaultCause) (i : Nat) : (s.raiseFault c i).mode = .faulted :=
  (State.mode_eq_faulted_iff _).mpr rfl

/-- No command is performed in FAULTED. -/
theorem Instr.runsIn_faulted (i : Instr) : i.runsIn .faulted = false := by cases i <;> rfl

/-! ### The mode in which a command ends (44_command_control.md R264) -/

/-- In IDLE `VCHECK.ALL_OK` is the checks of VALIDATE: both read the pair of `FRAC_INIT`, and R and OD always fit
(40_frequency_validator.md R141, R144, R146). -/
theorem State.readReg_vcheck_allOk_iff (hcfg : s.cfgOk = false) :
    (s.readReg .vcheck).getLsbD 6 = true ↔ s.configFault? = none := by
  have word : s.readReg .vcheck = s.vcheckWord := and_fullMask _
  have selected : s.selectedPair = s.initPair := by simp [State.selectedPair, hcfg]
  obtain ⟨_, _, _, _, _, _, allOk⟩ := s.vcheckWord_bits
  obtain ⟨r, od⟩ := s.rOk_and_odOk
  rw [word, allOk, State.allOk, s.configFault?_eq_none, selected, r, od]
  simp [and_assoc]

theorem State.validate_mode (hm : s.modesOrdered) (hf : s.fault = false) (hcfg : s.cfgOk = false) :
    s.validate.mode = if (s.readReg .vcheck).getLsbD 6 then .configured else .faulted := by
  obtain ⟨runReady, readyCfg⟩ := hm
  have hready : s.ready = false := by simpa [hcfg] using readyCfg
  have hrun : s.run = false := by simpa [hready] using runReady
  have reads := State.readReg_vcheck_allOk_iff hcfg
  rcases s.validate_cases with ⟨c, failed, h⟩ | ⟨passed, h⟩
  · rw [h, State.raiseFault_mode, if_neg (mt reads.mp (by simp [failed]))]
  · rw [h, if_pos (reads.mpr passed)]
    exact State.mode_of_cfgOk hf hrun hready rfl

theorem State.build_mode (hm : s.modesOrdered) (hf : s.fault = false) (hready : s.ready = false) :
    s.build.mode = if s.tableFault? = none then .ready else .faulted := by
  have hrun : s.run = false := by simpa [hready] using hm.1
  rcases s.build_cases with ⟨c, i, failed, h⟩ | ⟨passed, h⟩
  · rw [h, State.raiseFault_mode, if_neg (by simp [failed])]
  · rw [h, if_pos passed]
    exact State.mode_of_ready hf hrun rfl

theorem State.tick_mode (hf : s.fault = false) (hrun : s.run = true) :
    s.tick.mode = if s.periodFrac = 0#32 then .faulted else .running := by
  rcases s.tick_cases with ⟨hp, h⟩ | ⟨hp, h⟩
  · rw [h, State.raiseFault_mode, if_pos hp]
  · rw [h, if_neg hp]
    exact State.mode_of_run hf hrun

/-- Every command but CLEAR keeps CMD_ERR when its mode runs it (10_state.md R30). -/
theorem Instr.effect_cmdErr {i : Instr} (hi : i ≠ .clear) (s : State) : (Instr.effect i s).cmdErr = s.cmdErr := by
  rcases Instr.effect_interfaceFlags i s with ⟨rfl, _⟩ | ⟨kept, _⟩
  · exact absurd rfl hi
  · exact kept

/-- Settles O7: the entries of the table are the commands' preconditions, and each command's own lemma gives the mode
in which it ends. -/
theorem commandsFollowThePreconditionTable : Obligations.CommandsFollowThePreconditionTable := by
  intro s hm
  have unfaulted : s.mode ≠ .faulted → s.fault = false := fun hmode =>
    Bool.eq_false_iff.mpr (mt s.mode_eq_faulted_iff.mpr hmode)
  refine ⟨fun i => ⟨fun hmode => ?_, fun hmode refuses => ?_, fun runs => ?_⟩,
    fun v d hd => ⟨fun hmode => ?_, fun hmode => ?_⟩⟩
  · exact exec_faulted i (s.mode_eq_faulted_iff.mp hmode)
  · have hf := unfaulted hmode
    exact exec_refused hf ((Instr.allowed_eq_runsIn hm hf i).trans refuses)
  · have hf : s.fault = false := unfaulted fun hmode => by simp [hmode, Instr.runsIn_faulted] at runs
    have ha : Instr.allowed i s = true := (Instr.allowed_eq_runsIn hm hf i).trans runs
    refine ⟨_, exec_allowed hf ha, fun hi => Instr.effect_cmdErr hi s, ?_⟩
    cases i with
    | nop | resolve => rfl
    | validate => exact State.validate_mode hm hf (by simpa [Instr.allowed] using ha)
    | build =>
      obtain ⟨-, hready⟩ : s.cfgOk = true ∧ s.ready = false := by simpa [Instr.allowed] using ha
      exact State.build_mode hm hf hready
    | init => exact State.mode_of_run hf rfl
    | tick => exact State.tick_mode hf ha
    | clear => exact State.mode_of_idle hf rfl rfl rfl
  · exact ⟨.writeOk, State.perform_refusedWord (unfaulted hmode) (.inl ⟨d, hd⟩)⟩
  · exact ⟨.writeOk, s.perform_write_faulted (s.mode_eq_faulted_iff.mp hmode) (busError_offset .cmd)⟩

end Sys2Proof.Machine
end

section
/-! Exceptions (60_exceptions.md): fault entry and its causes, the fault state, and the bus errors. -/

namespace Sys2Proof.Machine

variable {s t : State}

/-! ### Fault entry (60_exceptions.md R300, R301) -/

/-- The checks of a command that fail, with the cause and the index that the fault then records. -/
inductive State.Raises (s : State) : Instr → FaultCause → Nat → Prop where
  | config {c : FaultCause} (failed : s.configFault? = some c) : s.Raises .validate c 0
  | table {c : FaultCause} {n : Nat} (failed : s.tableFault? = some (c, n)) : s.Raises .build c n
  | period (zero : s.periodFrac = 0#32) : s.Raises .tick .tickPfZero 0

/-- A command's effect sets FAULT only by the fault entry, on a failed check of its own. -/
theorem Instr.effect_raises {i : Instr} (hf : s.fault = false) (ht : (Instr.effect i s).fault = true) :
    ∃ c n, s.Raises i c n ∧ Instr.effect i s = s.raiseFault c n := by
  have keeps : (Instr.effect i s).fault ≠ s.fault := by simp [hf, ht]
  cases i with
  | nop | init | resolve | clear => exact absurd rfl keeps
  | validate =>
    rcases s.validate_cases with ⟨c, failed, h⟩ | ⟨-, h⟩
    · exact ⟨c, 0, .config failed, h⟩
    · exact absurd (congrArg State.fault h) keeps
  | build =>
    rcases s.build_cases with ⟨c, n, failed, h⟩ | ⟨-, h⟩
    · exact ⟨c, n, .table failed, h⟩
    · exact absurd (congrArg State.fault h) keeps
  | tick =>
    rcases s.tick_cases with ⟨zero, h⟩ | ⟨-, h⟩
    · exact ⟨_, 0, .period zero, h⟩
    · exact absurd (congrArg State.fault h) keeps

/-- So does the command on every path: neither the fault state nor a refusal sets FAULT. -/
theorem exec_raises {i : Instr} (h : exec i s = .next t) (hf : s.fault = false) (ht : t.fault = true) :
    ∃ c n, s.Raises i c n ∧ t = s.raiseFault c n := by
  rcases exec_next_cases h with ⟨hs, -⟩ | ⟨-, -, rfl⟩ | ⟨-, -, rfl⟩
  · exact absurd (hs.symm.trans hf) (by decide)
  · exact Instr.effect_raises hf ht
  · exact absurd (ht.symm.trans hf) (by decide)

/-- The four causes of VALIDATE (40_frequency_validator.md R146). -/
theorem State.configFault?_causes {c : FaultCause} (h : s.configFault? = some c) :
    c = .cfgFRange ∨ c = .cfgFrac ∨ c = .cfgVcoLow ∨ c = .cfgVcoHigh := by
  unfold State.configFault? at h
  split_ifs at h <;> cases h <;> simp

/-- The three causes of an entry (41_lut.md R173). -/
theorem State.entryFault?_causes {n : Nat} {c : FaultCause} (h : s.entryFault? n = some c) :
    c = .lutHole ∨ c = .lutFrac ∨ c = .lutNonmono := by
  cases written : s.lut.word? n with
  | none =>
    rw [State.entryFault?_of_unwritten written] at h
    cases h
    simp
  | some w =>
    rw [State.entryFault?_of_written written] at h
    split_ifs at h <;> cases h <;> simp

/-- BUILD reports the size, or an entry (41_lut.md R172, R173). -/
theorem State.tableFault?_causes {c : FaultCause} {n : Nat} (h : s.tableFault? = some (c, n)) :
    (c = .lutSize ∧ n = 0) ∨ c = .lutHole ∨ c = .lutFrac ∨ c = .lutNonmono := by
  unfold State.tableFault? at h
  split at h
  · cases h
    exact .inl ⟨rfl, rfl⟩
  · obtain ⟨-, -, entry, -⟩ := (s.scanEntries_eq_some _ _ _ _).mp h
    exact .inr (State.entryFault?_causes entry)

/-- Settles O17: the fault entry is the only way from FAULT = 0 to FAULT = 1, and each failed check has its causes. -/
theorem faultEntryIsPrecise : Obligations.FaultEntryIsPrecise := by
  intro i s t h hf ht
  obtain ⟨c, n, raises, rfl⟩ := exec_raises h hf ht
  refine ⟨rfl, rfl, ?_⟩
  cases raises with
  | config failed => exact .inl ⟨rfl, rfl, State.configFault?_causes failed⟩
  | table failed =>
    refine .inr (.inl ⟨rfl, ?_⟩)
    rcases State.tableFault?_causes failed with ⟨rfl, rfl⟩ | entry
    · exact .inl ⟨rfl, rfl⟩
    · exact .inr entry
  | period zero => exact .inr (.inr ⟨rfl, rfl, rfl⟩)

/-! ### VALIDATE against VCHECK (60_exceptions.md R305) -/

/-- In IDLE the cause of VALIDATE's fault is that of the lowest check bit that reads 0: VALIDATE asks its checks in the
order of the bits, R and OD always fit, and both read the pair of `FRAC_INIT` (40_frequency_validator.md R144, R146). -/
theorem State.configFault?_eq_lowest_vcheck {c : FaultCause} (hcfg : s.cfgOk = false)
    (failed : s.configFault? = some c) :
    c =
      if (s.readReg .vcheck).getLsbD 0 = false then .cfgFRange
      else if (s.readReg .vcheck).getLsbD 3 = false then .cfgFrac
      else if (s.readReg .vcheck).getLsbD 4 = false then .cfgVcoLow
      else .cfgVcoHigh := by
  have word : s.readReg .vcheck = s.vcheckWord := and_fullMask _
  have selected : s.selectedPair = s.initPair := by simp [State.selectedPair, hcfg]
  obtain ⟨fOk, -, -, fpOk, vcoLoOk, -, -⟩ := s.vcheckWord_bits
  rw [word, fOk, fpOk, vcoLoOk, selected]
  simp only [State.configFault?, Bool.not_eq_true'] at failed
  split_ifs at failed ⊢ <;> exact (Option.some.inj failed).symm

/-- Settles O12: VALIDATE passes or takes a failed check's fault, and `VCHECK` reads the same checks. -/
theorem validateFaultsExactlyWhenAllOkReadsZero : Obligations.ValidateFaultsExactlyWhenAllOkReadsZero := by
  intro s idle hcfg
  have hf : s.fault = false := Bool.eq_false_iff.mpr (mt s.mode_eq_faulted_iff.mpr (by simp [idle]))
  have reads := State.readReg_vcheck_allOk_iff hcfg
  refine ⟨s.validate, exec_allowed (i := .validate) hf (by simp [Instr.allowed, hcfg]), ?_⟩
  rcases s.validate_cases with ⟨c, failed, h⟩ | ⟨passed, h⟩
  · have readsZero : (s.readReg .vcheck).getLsbD 6 = false :=
      Bool.eq_false_iff.mpr (mt reads.mp (by simp [failed]))
    rw [h]
    exact ⟨iff_of_true rfl readsZero, fun _ => State.configFault?_eq_lowest_vcheck hcfg failed⟩
  · have unfaulted : s.passValidate.fault ≠ true := by simp [hf]
    rw [h]
    exact ⟨iff_of_false unfaulted (by simp [reads.mpr passed]), fun faulted => absurd faulted unfaulted⟩

/-! ### Bus errors (60_exceptions.md R308) -/

theorem busError_eq_true_iff (a : Offset) (n : Nat) :
    busError a n = true ↔ n ≠ 4 ∨ a.toNat % 4 ≠ 0 ∨ 0x98 < a.toNat := by
  simp [busError, or_assoc]

/-- The accesses that the window serves are those at a register's own offset. -/
theorem exists_offset_of_served {a : Offset} (aligned : a.toNat % 4 = 0) (inMap : a.toNat ≤ 0x98) :
    ∃ r : Reg, r.offset = a := by
  have served : busError a 4 = false :=
    Bool.eq_false_iff.mpr (mt (busError_eq_true_iff a 4).mp (by omega))
  obtain ⟨r, found⟩ := exists_reg_of_no_busError served
  exact ⟨r, offset_of_regAt? found⟩

/-- No command gives an answer of its own (log 3). -/
theorem exec_response {i : Instr} (h : exec i s = .next t) : t.response = s.response := by
  rw [exec_eq_written h]
  cases i <;> rfl

/-- A served write completes whatever its effect: in FAULTED, to `CMD`, or to another register (log 10). -/
theorem State.perform_write_response (s : State) (r : Reg) (v : Word) :
    ∃ t, s.perform (.write r.offset 4 v) = .next t ∧ t.response = .writeOk := by
  cases hf : s.fault with
  | true => exact ⟨_, s.perform_write_faulted hf (busError_offset r), rfl⟩
  | false =>
    by_cases hcmd : r = .cmd
    · subst hcmd
      cases hd : decode v with
      | ok i =>
        obtain ⟨t, runs⟩ := exec_answers i (s.respond .writeOk)
        exact ⟨t, (s.perform_command hd).trans runs, exec_response runs⟩
      | error d => exact ⟨_, s.perform_refused hf hd, rfl⟩
    · exact ⟨_, s.perform_write hf hcmd, State.writeReg_response _ r v⟩

/-- Settles O19: the grounds are those of `busError`, and every other access is at a register. -/
theorem busErrorChangesNoState : Obligations.BusErrorChangesNoState := by
  intro s a n v
  refine ⟨fun grounds => s.perform_busError v ((busError_eq_true_iff a n).mpr grounds), ?_⟩
  rintro rfl aligned inMap
  obtain ⟨r, rfl⟩ := exists_offset_of_served aligned inMap
  exact ⟨⟨_, _, s.perform_read r, rfl⟩, s.perform_write_response r v⟩

/-! ### The fault state (60_exceptions.md R302, R303) -/

/-- In FAULTED every event but reset changes the answer alone: each other ending needs FAULT = 0. -/
theorem State.Served.faulted {e : HostEvent} (he : s.Served e t) (hf : s.fault = true) (hne : e ≠ .reset) :
    ∃ r, t = s.respond r := by
  cases he with
  | answered r => exact ⟨r, rfl⟩
  | wasReset => exact absurd rfl hne
  | ran unfaulted | refused unfaulted | ignored unfaulted | loaded unfaulted | stored unfaulted =>
    exact absurd (hf.symm.trans unfaulted) (by decide)

/-- So does a run without a reset. -/
theorem State.runEvents_faulted {es : List HostEvent} (hf : s.fault = true) (noReset : .reset ∉ es)
    (h : s.runEvents es = .next t) : ∃ r, t = s.respond r := by
  refine State.runEvents_keeps (Q := (· ≠ .reset)) (P := fun u => ∃ r, u = s.respond r) ?_ es s t
    (fun e he => ne_of_mem_of_not_mem he noReset) ⟨s.response, rfl⟩ h
  rintro _ u e hne ⟨r, rfl⟩ performed
  obtain ⟨r', rfl⟩ := (State.served_of_perform performed).faulted hf hne
  exact ⟨r', rfl⟩

/-- Settles O18: a run without a reset and a served write change the answer alone; reads, bus errors and reset do not
look at FAULT. -/
theorem faultStateHoldsUntilReset : Obligations.FaultStateHoldsUntilReset := by
  intro s hf
  refine ⟨fun es t noReset h => ?_, s.perform_read,
    fun r v => ⟨.writeOk, s.perform_write_faulted hf (busError_offset r)⟩,
    fun a n v => (busErrorChangesNoState s a n v).1, ⟨s.hardReset, rfl, rfl, rfl, rfl⟩⟩
  obtain ⟨r, rfl⟩ := State.runEvents_faulted hf noReset h
  exact ⟨rfl, rfl, rfl, hf⟩

end Sys2Proof.Machine
end
